-- ==== Sys2Proof/Word.lean ====
section
/-! DEFINITION. The one machine word the DN-2's manual writes as bits: the byte of a frame, of the panel line and of the
configuration image (R187, R191, R192). Counts, minutes, lux, ppm and litres per second are numbers (Nat, Int), not words. -/

namespace Sys2Proof

/-- One byte of a frame, of the panel line or of the configuration image. -/
abbrev Byte := BitVec 8

end Sys2Proof
end

