-- ==== Sys2Proof/Syntax.lean ====
section
/-! DEFINITION. The commands of the DN-2: one constructor for each row of spec/opcode_table.json, in the table's order. The
table gives its rows no operands; the operands below are what the named rule says the event carries: the payload of a frame,
the counts of a conversion, the new level of an input line, the beam or the quantity whose timer it is. -/

namespace Sys2Proof

/-- The two door beams (section 2.1): BMO on the corridor side, BMI on the room side. -/
inductive Beam where
  | outer
  | inner
  deriving DecidableEq, Repr

/-- The five quantities of the Override Table (R148), in the order of their codes (R190). -/
inductive Quantity where
  | lightScene
  | lightLevel
  | blinds
  | airBoost
  | holdVacant
  deriving DecidableEq, Repr

/-- A frame that has passed the checks of R163, as the receive path hands it on (R164, R188): the source byte, the two class
bits, the payload bytes, and whether this node's own transmit path was sending during any part of it in an attempt that
ended in a collision (R164). The frame kind is the command's constructor. -/
structure Frame where
  src : Byte
  cls : BitVec 2
  payload : List Byte
  overlapsOwn : Bool
  deriving DecidableEq, Repr

/-- The commands: one constructor a row of the opcode table. -/
inductive Instr where
  /-- NRST_ASSERTED (R182): the reset input is asserted. -/
  | nrstAsserted
  /-- NRST_NEGATED (R182): the reset input is negated. -/
  | nrstNegated
  /-- CONFIG_ATTEMPT_FAILED (R182): the read attempt in progress fails. -/
  | configAttemptFailed
  /-- CONFIG_RETRY_EXPIRY (R183): the 60 s retry timer of CONFIG_FAULT expires. -/
  | configRetryExpiry
  /-- CONFIG_READ_COMPLETE (R184): the read attempt in progress completes with these 128 bytes. -/
  | configReadComplete (image : List Byte)
  /-- MINUTE_BOUNDARY (R1): the seconds of the Wing Clock pass 59. -/
  | minuteBoundary
  /-- TIME (R2). -/
  | time (f : Frame)
  /-- TT_BEGIN (R23). -/
  | ttBegin (f : Frame)
  /-- TT_ENTRY (R24). -/
  | ttEntry (f : Frame)
  /-- TT_CANCEL (R22). -/
  | ttCancel (f : Frame)
  /-- SILENCE_TIMER_EXPIRY (R25): the transfer's silence timer expires. -/
  | silenceTimerExpiry
  /-- OVERRUN_TIMER_EXPIRY (R57): the overrun timer expires. -/
  | overrunTimerExpiry
  /-- PIR_PULSE (R31): the PIR input changes from negated to asserted. -/
  | pirPulse
  /-- BEAM_BREAK (R26, R27): the beam changes from clear to broken. -/
  | beamBreak (b : Beam)
  /-- BEAM_RELEASE (R26, R30): the beam changes from broken to clear. -/
  | beamRelease (b : Beam)
  /-- WINDOW_EXPIRY (R28): the door-pair window has stood open for 1500 ms. -/
  | windowExpiry
  /-- STUCK_TIMER_EXPIRY (R30): the beam's stuck timer expires. -/
  | stuckTimerExpiry (b : Beam)
  /-- VACANCY_HOLD_EXPIRY (R34): the quiet time reaches the vacancy hold. -/
  | vacancyHoldExpiry
  /-- TRIPLE_HOLD_EXPIRY (R34): the quiet time reaches three times the vacancy hold. -/
  | tripleHoldExpiry
  /-- CO2_SAMPLE (R38, R39): the CO2 sample timer expires and the converter gives these counts. -/
  | co2Sample (counts : BitVec 10)
  /-- PHOTOCELL_SAMPLE (R38, R40): the photocell sample timer expires and the converter gives these counts. -/
  | photocellSample (counts : BitVec 10)
  /-- IRRADIANCE_SAMPLE (R38, R40): the irradiance sample timer expires and the converter gives these counts. -/
  | irradianceSample (counts : BitVec 10)
  /-- CLEAR_DWELL_EXPIRY (R104): the 10-minute clear-dwell timer expires. -/
  | clearDwellExpiry
  /-- CAPACITY (R79). -/
  | capacity (f : Frame)
  /-- DEMAND (R167). -/
  | demand (f : Frame)
  /-- CAPACITY_TIMER_EXPIRY (R80): the 120 s capacity timer expires. -/
  | capacityTimerExpiry
  /-- VIEW_AGE_CHECK (R82): the once-a-second check of the view's ages. -/
  | viewAgeCheck
  /-- PINCH_TIMER_EXPIRY (R91): the 5-minute pinch timer expires. -/
  | pinchTimerExpiry
  /-- DEMAND_PERIOD_EXPIRY (R93): the demand period timer expires. -/
  | demandPeriodExpiry
  /-- MOVE_COMPLETION (R117): a TRAVEL move reaches its due time. -/
  | moveCompletion
  /-- HOMING_END (R124): the homing time ends. -/
  | homingEnd
  /-- TRIP (R119): BTRIP changes from negated to asserted. `held` says whether it still reads asserted once the change has
  been taken: true while the motor's trip stands, false for a pulse. -/
  | trip (held : Bool)
  /-- PART_CHANGE (R131): the raw partition input changes; `isOpen` is its new reading. -/
  | partChange (isOpen : Bool)
  /-- DEBOUNCE_EXPIRY (R131): the 5 s debounce timer expires. -/
  | debounceExpiry
  /-- OFFER_RETRY_EXPIRY (R132, R145): the offer retry timer expires. -/
  | offerRetryExpiry
  /-- JOIN_OFFER (R133). -/
  | joinOffer (f : Frame)
  /-- JOIN_ACCEPT (R134). -/
  | joinAccept (f : Frame)
  /-- JOIN_REFUSE (R135). -/
  | joinRefuse (f : Frame)
  /-- JOIN_LEAVE (R138). -/
  | joinLeave (f : Frame)
  /-- PAIR_STATE (R141). -/
  | pairState (f : Frame)
  /-- PAIR_STATUS_PERIOD_EXPIRY (R139, R140): the 30 s pair status period timer expires. -/
  | pairStatusPeriodExpiry
  /-- LIVENESS_EXPIRY (R144): the 90 s liveness timer expires. -/
  | livenessExpiry
  /-- OVERRIDE (R149): an OVERRIDE frame whose CLEAR bit is not set. -/
  | override (f : Frame)
  /-- OVERRIDE_CLEAR (R151): an OVERRIDE frame whose CLEAR bit is set. -/
  | overrideClear (f : Frame)
  /-- STALE_TIMER_EXPIRY (R153): the stale timer of the quantity's record expires. -/
  | staleTimerExpiry (q : Quantity)
  /-- SCENE_KEY (R155): the panel's SCENE n key. -/
  | sceneKey (n : Fin 8)
  /-- LIGHT_UP (R155). -/
  | lightUp
  /-- LIGHT_DOWN (R155). -/
  | lightDown
  /-- BLINDS_UP (R155). -/
  | blindsUp
  /-- BLINDS_DOWN (R155). -/
  | blindsDown
  /-- BLINDS_STOP (R155). -/
  | blindsStop
  /-- AIR_BOOST_KEY (R155). -/
  | airBoostKey
  /-- ROOM_OFF (R156). -/
  | roomOff
  /-- PANEL_BYTE_DISCARD (R154): a byte on PNRX with a framing error, or one that decodes to no key code. -/
  | panelByteDiscard (byte : Byte) (framingError : Bool)
  /-- INDICATOR_SENT (R157): the indicator transmission on PNTX ends. -/
  | indicatorSent
  /-- LIFE_SAFETY_EVACUATE (R158): a LIFE_SAFETY frame of mode EVACUATE. -/
  | lifeSafetyEvacuate (f : Frame)
  /-- LIFE_SAFETY_SMOKE_HOLD (R158): a LIFE_SAFETY frame of mode SMOKE_HOLD. -/
  | lifeSafetySmokeHold (f : Frame)
  /-- LIFE_SAFETY_CLEAR (R158): a LIFE_SAFETY frame of mode CLEAR. -/
  | lifeSafetyClear (f : Frame)
  /-- FIRE_CHANGE (R158, R183): the FIRE input changes; `asserted` is its new level. -/
  | fireChange (asserted : Bool)
  /-- HOLD_ON (R160): a HOLD frame of value ON. -/
  | holdOn (f : Frame)
  /-- HOLD_OFF (R160): a HOLD frame of value OFF. -/
  | holdOff (f : Frame)
  /-- RESTART (R161). -/
  | restart (f : Frame)
  /-- QUERY (R180). -/
  | query (f : Frame)
  /-- OTHER_FRAME (R165): a received frame of a kind code the node does not take. -/
  | otherFrame (kind : BitVec 6) (f : Frame)
  /-- FRAME_DISCARD (R163): a completed frame that fails a check. The bytes are those gathered after the delimiter;
  `badStop` says whether any byte arrived with its stop bit low. -/
  | frameDiscard (bytes : List Byte) (badStop : Bool)
  /-- FRAME_IDLE_TIMEOUT (R163): the line stands idle for 2 slots inside an open frame. The frame is the one that the receive path
  gathers, or, while it hunts, one handed over as these bytes with `badStop`, as the other frame commands are. -/
  | frameIdleTimeout (bytes : List Byte) (badStop : Bool)
  /-- STATUS_PERIOD_EXPIRY (R180): the status period timer expires. -/
  | statusPeriodExpiry
  /-- ATTEMPT_START (R168): the line has stood idle for 6 slots and the transmit path may start an attempt. -/
  | attemptStart
  /-- TRANSMIT_COMPLETION (R170): the last CRC bit is sent without a collision. -/
  | transmitCompletion
  /-- COLLISION (R169): a bit is read back with another value than it was sent with. -/
  | collision
  /-- BACKOFF_END (R169): the backoff's slots have passed. -/
  | backoffEnd
  /-- LONG_PAUSE_END (R171): the 2 s long pause ends. -/
  | longPauseEnd
  deriving DecidableEq, Repr

end Sys2Proof
end

