-- ==== Sys2Proof/Machine/Types.lean ====
section
/-! DEFINITION. The kinds of data the thirteen blocks hold: states, records and entries, each in the manual's own shape. -/

namespace Sys2Proof.Machine

/-! ## Things there are three or five or sixteen of -/

/-- The three blind banks (R114). -/
inductive Bank where
  | bank1
  | bank2
  | bank3
  deriving DecidableEq, Repr

/-- One value for each blind bank. -/
structure PerBank (α : Type) where
  bank1 : α
  bank2 : α
  bank3 : α
  deriving DecidableEq, Repr

/-- One value for each override quantity (R148). -/
structure PerQuantity (α : Type) where
  lightScene : α
  lightLevel : α
  blinds : α
  airBoost : α
  holdVacant : α
  deriving DecidableEq, Repr

/-- One value for each door beam. -/
structure PerBeam (α : Type) where
  outer : α
  inner : α
  deriving DecidableEq, Repr

/-- The sixteen event kinds (section 9.5), in the order of their numbers. -/
inductive EventKind where
  | sessionBegin
  | sessionEnd
  | release
  | overrun
  | adhoc
  | airShort
  | sensorFault
  | blindFault
  | ttRefused
  | ttDone
  | partitionMismatch
  | partnerLost
  | overrideRefused
  | linkFault
  | txAbandoned
  | configClamped
  deriving DecidableEq, Repr

/-- One value for each event kind. -/
structure PerEvent (α : Type) where
  sessionBegin : α
  sessionEnd : α
  release : α
  overrun : α
  adhoc : α
  airShort : α
  sensorFault : α
  blindFault : α
  ttRefused : α
  ttDone : α
  partitionMismatch : α
  partnerLost : α
  overrideRefused : α
  linkFault : α
  txAbandoned : α
  configClamped : α
  deriving DecidableEq, Repr

/-! ## Sessions and the timetable -/

/-- The session kinds (R7). -/
inductive SessionKind where
  | lecture
  | seminar
  | exam
  | event
  deriving DecidableEq, Repr

/-- The scope of a session record (R7). -/
inductive Scope where
  | leaf
  | joined
  deriving DecidableEq, Repr

/-- The initial blind policy of a preference (R7). -/
inductive PrefPolicy where
  | noPolicy
  | openUp
  | project
  deriving DecidableEq, Repr

/-- A present preference (R7): the rest-target trim in lux and the initial blind policy. -/
structure Preference where
  trim : Int
  policy : PrefPolicy
  deriving DecidableEq, Repr

/-- The four compare points of a record (R10). -/
inductive Point where
  | pointE
  | pointA
  | pointB
  | pointG
  deriving DecidableEq, Repr

/-- A session record (R7) with its four taken marks (R10). `start` and `finish` are wing minutes. -/
structure Session where
  id : Nat
  start : Nat
  finish : Nat
  kind : SessionKind
  scope : Scope
  expected : Nat
  scene : Nat
  lead : Nat
  grace : Nat
  pref : Option Preference
  takenA : Bool
  takenB : Bool
  takenG : Bool
  takenE : Bool
  deriving DecidableEq, Repr

/-- An open timetable transfer (R23). `silenceDue` is the oscillator time at which its silence timer expires. -/
structure Transfer where
  source : Nat
  generation : Nat
  index : Nat
  remaining : Nat
  accepted : Nat
  silenceDue : Nat
  deriving DecidableEq, Repr

/-- Why the merge refuses an entry (R21). -/
inductive RefuseReason where
  | overlap
  | past
  | full
  | badField
  deriving DecidableEq, Repr

/-- How a transfer ended (R23 to R25). -/
inductive DoneReason where
  | complete
  | indexGap
  | timeout
  | superseded
  | restart
  deriving DecidableEq, Repr

/-! ## Occupancy and evidence -/

/-- The seven occupancy states (section 3.1). -/
inductive Occupancy where
  | vacant
  | precondition
  | expected
  | occupied
  | released
  | overrun
  | adhoc
  deriving DecidableEq, Repr

/-- The evidence events (R31). -/
inductive EvidenceKind where
  | motion
  | entry
  | exit
  | unpaired
  | panel
  | partner
  deriving DecidableEq, Repr

/-- The OPEN door-pair window (section 2.1.1): the beam that opened it and the oscillator time of that break. -/
structure Window where
  beam : Beam
  openedAt : Nat
  deriving DecidableEq, Repr

/-- A full-scale run in progress (R41): the time of its first reading and the pre-run value. -/
structure FullScaleRun where
  firstAt : Nat
  preRun : Option Nat
  deriving DecidableEq, Repr

/-- One of the two analogue inputs that have full-scale runs: photocell and irradiance (R38, R40, R41). -/
structure AnalogueInput where
  held : Option Nat
  run : Option FullScaleRun
  fault : Bool
  sampleDue : Nat
  deriving DecidableEq, Repr

/-- The inputs SENSOR_FAULT names (section 9.5, kind 7). -/
inductive SensorInput where
  | co2
  | photo
  | irrad
  | door
  deriving DecidableEq, Repr

/-- Why a room is released (R62). -/
inductive ReleaseReason where
  | noShow
  | earlyLeave
  deriving DecidableEq, Repr

/-! ## Air -/

/-- The demand part of a peer's record (R167): what its last DEMAND carried and when it came. -/
structure DemandPart where
  riser : Nat
  demand : Nat
  floor : Nat
  airClass : Nat
  writtenAt : Nat
  deriving DecidableEq, Repr

/-- A Peer Table record (R167). `heardAt` is the oscillator time of the last frame from the station; the pair part is the
partner's M_max. -/
structure Peer where
  address : Nat
  heardAt : Nat
  demandPart : Option DemandPart
  pairPart : Option Nat
  deriving DecidableEq, Repr

/-- The pinch timer (R69, R91). -/
inductive PinchTimer where
  | stopped
  | running (due : Nat)
  | expired
  deriving DecidableEq, Repr

/-! ## Light, shade and blinds -/

/-- The blind policies (R95). -/
inductive BlindPolicy where
  | followGlare
  | project
  | openUp
  deriving DecidableEq, Repr

/-- The three configured fields of a scene (R95). -/
structure Scene where
  front : Nat
  rest : Nat
  policy : BlindPolicy
  deriving DecidableEq, Repr

/-- The origins of a blind request (R114). -/
inductive Origin where
  | scene
  | glare
  | override
  | safety
  deriving DecidableEq, Repr

/-- A position with its origin: a held target of the Shade Policy, a request, or a pending request. -/
structure Target where
  pos : Nat
  origin : Origin
  deriving DecidableEq, Repr

/-- The direction of a move (R114). -/
inductive Direction where
  | raise
  | lower
  deriving DecidableEq, Repr

/-- The phase of a move (R114); a HOMING move carries its follow-on target and origin (R124). -/
inductive Phase where
  | travel
  | homing (follow : Target)
  deriving DecidableEq, Repr

/-- The move in flight (R114). -/
structure Move where
  bank : Bank
  phase : Phase
  direction : Direction
  startPos : Nat
  startAt : Nat
  target : Nat
  origin : Origin
  deriving DecidableEq, Repr

/-! ## The pair -/

/-- The pair states (R129). -/
inductive PairState where
  | single
  | offering
  | joinedLead
  | joinedFollow
  | partnerLost
  deriving DecidableEq, Repr

/-- The four pair-control messages (chapter 7). -/
inductive PairMsg where
  | joinOffer
  | joinAccept
  | joinRefuse
  | joinLeave
  deriving DecidableEq, Repr

/-- The panel keys a follower forwards (R143). -/
inductive ForwardKey where
  | scene
  | lightUp
  | lightDown
  deriving DecidableEq, Repr

/-- A forwarded request (R143): the key and its value. -/
structure Forwarded where
  key : ForwardKey
  value : Int
  deriving DecidableEq, Repr

/-- What a joined follower takes from the lead's latest PAIR_STATE for its lights and blinds (R111). -/
structure Mirror where
  scene : Nat
  lightScene : Option Nat
  lightLevel : Option Int
  policy : BlindPolicy
  glare : Bool
  deriving DecidableEq, Repr

/-- The values the Light Loop and the Shade Policy last handed to the Pair Unit (R112, R139). -/
structure Handed where
  scene : Nat
  lightScene : Option Nat
  lightLevel : Option Int
  policy : BlindPolicy
  glare : Bool
  deriving DecidableEq, Repr

/-! ## Overrides and the panel -/

/-- An override record (R147). `expiry` is a wing minute or none; `stale` is none while the flag is clear, and otherwise the
oscillator time at which the stale timer expires. -/
structure OverrideRecord where
  level : Nat
  source : Nat
  value : Int
  expiry : Option Nat
  stale : Option Nat
  deriving DecidableEq, Repr

/-- The modes of life-safety (R147): of the last LIFE_SAFETY frame (CLEAR is `off`), and the mode formed from it and the FIRE
input (NONE is `off`). -/
inductive LifeSafety where
  | off
  | evacuate
  | smokeHold (position : Nat)
  deriving DecidableEq, Repr

/-- Why a request is refused (R150, R165). -/
inductive RefusalReason where
  | privilege
  | outranked
  | safety
  | held
  deriving DecidableEq, Repr

/-- What OVERRIDE_REFUSED names (R190): a quantity, a refused frame's kind code, or ROOM OFF. -/
inductive Subject where
  | quantity (q : Quantity)
  | frame (kind : Nat)
  | roomOff
  deriving DecidableEq, Repr

/-- The panel keys (R155). -/
inductive Key where
  | scene (n : Fin 8)
  | lightUp
  | lightDown
  | blindsUp
  | blindsDown
  | blindsStop
  | airBoost
  | roomOff
  deriving DecidableEq, Repr

/-- The content of an indicator frame (R157). -/
structure Indicator where
  occupancy : Occupancy
  scene : Nat
  accepted : Bool
  deriving DecidableEq, Repr

/-! ## Events, reports and the line -/

/-- The types of LINK_FAULT (R163). -/
inductive LinkFault where
  | crc
  | framing
  | length
  deriving DecidableEq, Repr

/-- The detail of one occurrence of an event (section 9.5, R190). -/
inductive Detail where
  | sessionBegin (session : Nat)
  | sessionEnd (session : Nat) (overran : Bool)
  | release (session : Nat) (reason : ReleaseReason)
  | overrun (session : Nat)
  | adhoc (headcount : Nat)
  | airShort (demand grant : Nat)
  | sensorFault (input : SensorInput)
  | blindFault (bank : Bank)
  | ttRefused (session : Nat) (reason : RefuseReason)
  | ttDone (generation accepted remaining : Nat) (reason : DoneReason)
  | partitionMismatch (partner : Nat) (readsOpen : Bool)
  | partnerLost (partner : Nat)
  | overrideRefused (source : Nat) (subject : Subject) (reason : RefusalReason)
  | linkFault (type : LinkFault) (source : Nat)
  | txAbandoned (code event : Nat)
  | configClamped (index : Nat)
  deriving DecidableEq, Repr

/-- The later part of a latch (R176): the first detail since an attempt started and the count since then. -/
structure LaterPart where
  detail : Detail
  count : Nat
  deriving DecidableEq, Repr

/-- A set event latch (R176); a clear latch is none. -/
structure Latch where
  detail : Detail
  count : Nat
  later : Option LaterPart
  deriving DecidableEq, Repr

/-- The 21 report kinds (chapter 9, section 7 of the introduction). -/
inductive ReportKind where
  | pairCtrl
  | pairState
  | event (k : EventKind)
  | demand
  | roomStatus
  | identity
  deriving DecidableEq, Repr

/-- An entry of the report queue (R172). `msg` is the message of a PAIR_CTRL entry. -/
structure Entry where
  kind : ReportKind
  attempts : Nat
  requeue : Bool
  msg : Option PairMsg
  deriving DecidableEq, Repr

/-- A byte on the wing bus as the receive path hears it (R163): its value, and whether its stop bit was low. -/
structure LineByte where
  value : Byte
  badStop : Bool
  deriving DecidableEq, Repr

/-- A frame being gathered (R163): the bytes heard after its delimiter, and whether any byte of it came with its stop bit low. -/
structure Gathering where
  bytes : List Byte
  badStop : Bool
  deriving DecidableEq, Repr

/-- The attempt in flight (R168): the kind of its entry, the bytes it puts on the line, and what its frame carried as far as a
completion acts on it: the message of a PAIR_CTRL, the D of a DEMAND (R92), the mask of a ROOM_STATUS (R179), the evidence
flag of a follower's PAIR_STATE and whether evidence has come since the attempt started (R140). `orphan` is set when the
entry is removed by its owner while it is in flight (R173). `attempts` is the entry's attempt count at the start. -/
structure Attempt where
  kind : ReportKind
  bytes : List Byte
  msg : Option PairMsg
  demand : Nat
  mask : BitVec 16
  evidence : Bool
  evidenceSince : Bool
  orphan : Bool
  attempts : Nat
  deriving DecidableEq, Repr

/-! ## Configuration and the node as a whole -/

/-- The configuration of one bank (index 21 to 29): travel time in seconds, glare position, screen-side flag. -/
structure BankConfig where
  travel : Nat
  glarePos : Nat
  screenSide : Bool
  deriving DecidableEq, Repr

/-- The configuration of one event kind (index 54 to 69). -/
structure EventConfig where
  enabled : Bool
  priority : Nat
  deriving DecidableEq, Repr

/-- The configuration record (section 10.3). `scenes` are scenes 1 to 7 in order; scene 0 is fixed (R95). -/
structure ConfigRecord where
  station : Nat
  room : Nat
  pairRoom : Nat
  partner : Nat
  riser : Nat
  mMax : Nat
  areaRate : Nat
  personRate : Nat
  vacFloor : Nat
  co2Setpoint : Nat
  co2Gain : Nat
  isolated : Nat
  demandPeriod : Nat
  boostCeiling : Nat
  vacancyHold : Nat
  overrunLimit : Nat
  statusPeriod : Nat
  loopGain : Nat
  glareThreshold : Nat
  hysteresis : Nat
  banks : PerBank BankConfig
  scenes : List Scene
  events : PerEvent EventConfig
  deriving DecidableEq, Repr

/-- Why the configuration image is being read (R182, R183, R186). -/
inductive ReadCause where
  | powerOn
  | softRestart
  | retry
  deriving DecidableEq, Repr

/-- What the node is doing as a whole (R182, R183, R185). A read has its attempt number 1..3 and the oscillator time at which
that attempt begins; CONFIG_FAULT has the due time of its retry timer. -/
inductive NodePhase where
  | inReset
  | reading (cause : ReadCause) (attempt : Nat) (beginsAt : Nat)
  | configFault (retryDue : Nat)
  | running
  deriving DecidableEq, Repr

end Sys2Proof.Machine
end

