-- ==== Sys2Proof/Machine/Blocks.lean ====
section
/-! DEFINITION. The state of each block of section 3 of the introduction, and the value each holds after power-on. A timer is
held as the oscillator time, in milliseconds, at which it expires (none: stopped); an age is held as the oscillator time it
counts from. -/

namespace Sys2Proof.Machine

/-- Wing Link Controller (R181): the receive path (none while it hunts for a delimiter), the attempt in flight, the backoff in slots, the due time of the long pause, the report
queue, the bank of event latches, the status period timer, and when the node last began running (R180). -/
structure Link where
  receiver : Option Gathering
  attempt : Option Attempt
  backoff : Option Nat
  longPause : Option Nat
  queue : List Entry
  latches : PerEvent (Option Latch)
  statusDue : Nat
  runningSince : Nat
  deriving DecidableEq, Repr

/-- Wing Clock (R1): the wing minute, when the seconds next pass 59, the time-valid flag. The seconds are the view
`State.seconds` of `boundaryDue`. -/
structure Clock where
  minute : Nat
  boundaryDue : Nat
  timeValid : Bool
  deriving DecidableEq, Repr

/-- Session Table (R8, R23): the records sorted by start, and the open transfer. -/
structure Sessions where
  records : List Session
  transfer : Option Transfer
  deriving DecidableEq, Repr

/-- Evidence Unit (R42). `holdPassed` and `triplePassed` say which of the two expiries of R34 the present quiet time has
passed. -/
structure Evidence where
  window : Option Window
  stuckDue : PerBeam (Option Nat)
  stuckMark : PerBeam Bool
  headcount : Nat
  lastEvidence : Option Nat
  holdPassed : Bool
  triplePassed : Bool
  confirmMark : Option Nat
  co2 : Option Nat
  co2Fault : Bool
  co2Due : Nat
  photo : AnalogueInput
  irrad : AnalogueInput
  deriving DecidableEq, Repr

/-- Room State Machine (R45), with the mirrored session id of a joined follower (R67). -/
structure Room where
  occupancy : Occupancy
  current : Option Nat
  mirroredId : Option Nat
  overrunScene : Option Nat
  overrunDue : Option Nat
  switchMarker : Bool
  deriving DecidableEq, Repr

/-- Air Share Engine (R69): the own demand record, the capacity record, the own grant, pinch, the last published demand, the
demand period timer, and the addresses of the peers that the last view held (R81). -/
structure Air where
  demand : Nat
  floor : Nat
  airClass : Nat
  capacityKnown : Bool
  capacity : Nat
  supplyRunning : Bool
  capacityDue : Option Nat
  grant : Nat
  pinch : Bool
  episode : Bool
  pinchTimer : PinchTimer
  lastPublished : Option Nat
  demandDue : Nat
  view : List Nat
  deriving DecidableEq, Repr

/-- Light Loop (R98): the active scene's number and the fields in use, the loop target and the rest level. -/
structure Light where
  scene : Nat
  front : Nat
  rest : Nat
  policy : BlindPolicy
  loopTarget : Nat
  restLevel : Nat
  deriving DecidableEq, Repr

/-- Shade Policy (R104, R107): the glare flag, the clear-dwell timer, and each bank's held target (NONE is none). -/
structure Shade where
  glare : Bool
  dwellDue : Option Nat
  held : PerBank (Option Target)
  deriving DecidableEq, Repr

/-- Blind Drive (R114). -/
structure Drive where
  pos : PerBank Nat
  uncertain : PerBank Bool
  waiting : PerBank (Option Target)
  move : Option Move
  deriving DecidableEq, Repr

/-- Pair Unit (R129). `sequence` numbers the forwarded requests; `mirror` and `handed` are the light and shade values carried
between the blocks and the partner (R111, R112). -/
structure Pair where
  state : PairState
  readsOpen : Bool
  debounceDue : Option Nat
  offerDue : Option Nat
  offerCount : Nat
  livenessDue : Option Nat
  periodDue : Option Nat
  followerCount : Nat
  combined : Nat
  evidenceFlag : Bool
  forwarded : Option Forwarded
  sequence : Nat
  lastSequence : Option Nat
  mirror : Mirror
  handed : Handed
  deriving DecidableEq, Repr

/-- Override Table with Panel Port (R147, R157): the records, the mode of the last LIFE_SAFETY frame, the life-safety mode, the
hold mode, the indicator being sent on PNTX and the indicator waiting. -/
structure Overrides where
  records : PerQuantity (Option OverrideRecord)
  frameMode : LifeSafety
  lifeSafety : LifeSafety
  hold : Bool
  sending : Option Indicator
  indicatorWaiting : Option Indicator
  deriving DecidableEq, Repr

/-- Configuration Loader (R184): the configuration record, the clamped-at-start flag, and the index of the first field that
the last read clamped. -/
structure Loader where
  record : ConfigRecord
  clampedAtStart : Bool
  firstClamped : Option Nat
  deriving DecidableEq, Repr

/-- The levels at which the local input lines stand: the beams (true: broken), PART (true: open), FIRE and BTRIP (true:
asserted). -/
structure Pins where
  broken : PerBeam Bool
  partOpen : Bool
  fire : Bool
  btrip : Bool
  deriving DecidableEq, Repr

/-- The local output lines: DIM1, DIM2 and DMP in per-mille, BMUP, BMDN, and the bank on the select lines (R115, R193). -/
structure Outputs where
  dim1 : Nat
  dim2 : Nat
  dmp : Nat
  motorUp : Bool
  motorDown : Bool
  selected : Bank
  deriving DecidableEq, Repr

/-! ## Values after power-on -/

/-- Hunting for a delimiter, all latches clear, queue empty, nothing on the line (R181). -/
def Link.powerOn : Link where
  receiver := none
  attempt := none
  backoff := none
  longPause := none
  queue := []
  latches := ⟨none, none, none, none, none, none, none, none, none, none, none, none, none, none, none, none⟩
  statusDue := 0
  runningSince := 0

/-- Wing minute 0, seconds 0, time not valid (R1); `now` is when it starts. -/
def Clock.powerOn (now : Nat) : Clock where
  minute := 0
  boundaryDue := now + 60000
  timeValid := false

/-- No records (R8), no transfer (R23). -/
def Sessions.powerOn : Sessions where
  records := []
  transfer := none

/-- No reading held, no run, no fault (R42). -/
def AnalogueInput.powerOn : AnalogueInput where
  held := none
  run := none
  fault := false
  sampleDue := 0

/-- The reset values of R42, before the timers are started. -/
def Evidence.powerOn : Evidence where
  window := none
  stuckDue := ⟨none, none⟩
  stuckMark := ⟨false, false⟩
  headcount := 0
  lastEvidence := none
  holdPassed := false
  triplePassed := false
  confirmMark := none
  co2 := none
  co2Fault := false
  co2Due := 0
  photo := AnalogueInput.powerOn
  irrad := AnalogueInput.powerOn

/-- VACANT, no mark, no overrun record, timer stopped, marker clear (R45). -/
def Room.powerOn : Room where
  occupancy := .vacant
  current := none
  mirroredId := none
  overrunScene := none
  overrunDue := none
  switchMarker := false

/-- The engine before its first evaluation (R69). -/
def Air.powerOn : Air where
  demand := 0
  floor := 0
  airClass := 0
  capacityKnown := false
  capacity := 0
  supplyRunning := false
  capacityDue := none
  grant := 0
  pinch := false
  episode := false
  pinchTimer := .stopped
  lastPublished := none
  demandDue := 0
  view := []

/-- Scene 0, levels and target 0 (R98). -/
def Light.powerOn : Light where
  scene := 0
  front := 0
  rest := 0
  policy := .followGlare
  loopTarget := 0
  restLevel := 0

/-- Glare clear, dwell stopped (R106), every held target NONE (R113). -/
def Shade.powerOn : Shade where
  glare := false
  dwellDue := none
  held := ⟨none, none, none⟩

/-- Every bank at 0 and uncertain, nothing pending, nothing moving (R128). -/
def Drive.powerOn : Drive where
  pos := ⟨0, 0, 0⟩
  uncertain := ⟨true, true, true⟩
  waiting := ⟨none, none, none⟩
  move := none

/-- SINGLE, reading CLOSED, timers stopped, nothing held (R129). -/
def Pair.powerOn : Pair where
  state := .single
  readsOpen := false
  debounceDue := none
  offerDue := none
  offerCount := 0
  livenessDue := none
  periodDue := none
  followerCount := 0
  combined := 0
  evidenceFlag := false
  forwarded := none
  sequence := 0
  lastSequence := none
  mirror := ⟨0, none, none, .followGlare, false⟩
  handed := ⟨0, none, none, .followGlare, false⟩

/-- No records, frame mode CLEAR, hold OFF, no indicator (R147); the life-safety mode is formed when running begins. -/
def Overrides.powerOn : Overrides where
  records := ⟨none, none, none, none, none⟩
  frameMode := .off
  lifeSafety := .off
  hold := false
  sending := none
  indicatorWaiting := none

/-- The outputs while NRST is asserted and while the image is read at a power-on start (R182); the select lines stand at bank 1
(R115). -/
def Outputs.inReset : Outputs where
  dim1 := 0
  dim2 := 0
  dmp := 0
  motorUp := false
  motorDown := false
  selected := .bank1

/-- The input lines at rest: beams clear, partition closed, FIRE and BTRIP negated. The manual gives inputs no reset value
(assumption log, entry 2). -/
def Pins.atRest : Pins where
  broken := ⟨false, false⟩
  partOpen := false
  fire := false
  btrip := false

/-! ## The record an erased image gives -/

/-- Scene 0 is fixed as off (R95). -/
def Scene.off : Scene := ⟨0, 0, .followGlare⟩

/-- The defaults of a scene's three fields (index 30 to 53). -/
def Scene.default : Scene := ⟨800, 500, .followGlare⟩

/-- The default priorities of the event kinds, all enabled (section 10.3). -/
def EventConfig.defaults : PerEvent EventConfig where
  sessionBegin := ⟨true, 3⟩
  sessionEnd := ⟨true, 3⟩
  release := ⟨true, 3⟩
  overrun := ⟨true, 4⟩
  adhoc := ⟨true, 4⟩
  airShort := ⟨true, 4⟩
  sensorFault := ⟨true, 4⟩
  blindFault := ⟨true, 3⟩
  ttRefused := ⟨true, 6⟩
  ttDone := ⟨true, 6⟩
  partitionMismatch := ⟨true, 5⟩
  partnerLost := ⟨true, 4⟩
  overrideRefused := ⟨true, 6⟩
  linkFault := ⟨true, 7⟩
  txAbandoned := ⟨true, 7⟩
  configClamped := ⟨true, 4⟩

/-- The defaults of a bank's three fields (index 21 to 29). -/
def BankConfig.default : BankConfig := ⟨60, 70, false⟩

/-- What an image read from an erased memory gives: every default, station 126, room 65535, riser 15 (section 10.3). -/
def ConfigRecord.erased : ConfigRecord where
  station := 126
  room := 65535
  pairRoom := 0
  partner := 0
  riser := 15
  mMax := 600
  areaRate := 40
  personRate := 10
  vacFloor := 60
  co2Setpoint := 1000
  co2Gain := 20
  isolated := 300
  demandPeriod := 20
  boostCeiling := 100
  vacancyHold := 10
  overrunLimit := 60
  statusPeriod := 60
  loopGain := 16
  glareThreshold := 350
  hysteresis := 80
  banks := ⟨.default, .default, .default⟩
  scenes := List.replicate 7 Scene.default
  events := EventConfig.defaults

/-- Before the first read the record is the erased image's, nothing clamped. The manual gives the record no value before a read
(assumption log, entry 2); no block runs on it. -/
def Loader.beforeRead : Loader where
  record := ConfigRecord.erased
  clampedAtStart := false
  firstClamped := none

end Sys2Proof.Machine
end

