-- ==== Sys2Proof/Machine/State.lean ====
section
/-! DEFINITION. The state of the node: its blocks, its lines, its oscillator, and the queue of the commands that wait. -/

namespace Sys2Proof.Machine

/-- The node has no fault that stops it: every command has an effect, or none, as its rule says, and the block goes on. No
constructor, so no command ends in a fault. -/
inductive Fault where
  deriving DecidableEq, Repr

/-- The refusals. Safe: a refused command has no next state. -/
inductive Refusal where
  /-- Raised by an arm of exec for a command without a meaning; safe. No arm raises it: every command has its meaning. -/
  | notModelled (mnemonic : String)
  deriving DecidableEq, Repr

/-- The whole node. `now` is the node's oscillator in milliseconds since reset; `draws` counts the random draws taken; `line`
is what stands on the wing bus, the bytes that the receive path has not yet heard (all three the model's own, assumption log
entries 1, 3 and 11); `pending` is the queue of waiting commands, first in, first out. -/
structure State where
  now : Nat
  phase : NodePhase
  loader : Loader
  pins : Pins
  out : Outputs
  link : Link
  peers : List Peer
  clock : Clock
  sessions : Sessions
  evidence : Evidence
  room : Room
  air : Air
  light : Light
  shade : Shade
  drive : Drive
  pair : Pair
  overrides : Overrides
  draws : Nat
  line : List LineByte
  pending : List Instr
  deriving DecidableEq, Repr

/-- The node right after reset: NRST has just been negated and the Configuration Loader begins the first attempt of its read
(R182). Every block holds its power-on values, nothing runs, and no command waits. -/
def State.reset : State where
  now := 0
  phase := .reading .powerOn 1 0
  loader := Loader.beforeRead
  pins := Pins.atRest
  out := Outputs.inReset
  link := Link.powerOn
  peers := []
  clock := Clock.powerOn 0
  sessions := Sessions.powerOn
  evidence := Evidence.powerOn
  room := Room.powerOn
  air := Air.powerOn
  light := Light.powerOn
  shade := Shade.powerOn
  drive := Drive.powerOn
  pair := Pair.powerOn
  overrides := Overrides.powerOn
  draws := 0
  line := []
  pending := []

end Sys2Proof.Machine
end

