-- ==== Sys2Proof/Machine/Ops.lean ====
section
/-! DEFINITION. The named operations over the state that every family uses: reading and writing one bank, beam, quantity or
event kind, changing one block, the oscillator and the timers, and the few views that several blocks read. -/

namespace Sys2Proof

/-- The quantities in the order of their codes (R190). -/
def Quantity.all : List Quantity := [.lightScene, .lightLevel, .blinds, .airBoost, .holdVacant]

/-- The code of a quantity (R190). -/
def Quantity.code : Quantity → Nat
  | .lightScene => 0
  | .lightLevel => 1
  | .blinds => 2
  | .airBoost => 3
  | .holdVacant => 4

end Sys2Proof

namespace Sys2Proof.Machine

/-! ## One of three, two, five or sixteen -/

/-- The banks in their order 1, 2, 3. -/
def Bank.all : List Bank := [.bank1, .bank2, .bank3]

/-- The number of a bank. -/
def Bank.number : Bank → Nat
  | .bank1 => 1
  | .bank2 => 2
  | .bank3 => 3

/-- The value held for a bank. -/
def PerBank.get {α : Type} (v : PerBank α) : Bank → α
  | .bank1 => v.bank1
  | .bank2 => v.bank2
  | .bank3 => v.bank3

/-- The values with one bank's replaced. -/
def PerBank.set {α : Type} (v : PerBank α) (b : Bank) (x : α) : PerBank α :=
  match b with
  | .bank1 => { v with bank1 := x }
  | .bank2 => { v with bank2 := x }
  | .bank3 => { v with bank3 := x }

/-- The value held for a beam. -/
def PerBeam.get {α : Type} (v : PerBeam α) : Beam → α
  | .outer => v.outer
  | .inner => v.inner

/-- The values with one beam's replaced. -/
def PerBeam.set {α : Type} (v : PerBeam α) (b : Beam) (x : α) : PerBeam α :=
  match b with
  | .outer => { v with outer := x }
  | .inner => { v with inner := x }

/-- The value held for a quantity. -/
def PerQuantity.get {α : Type} (v : PerQuantity α) : Quantity → α
  | .lightScene => v.lightScene
  | .lightLevel => v.lightLevel
  | .blinds => v.blinds
  | .airBoost => v.airBoost
  | .holdVacant => v.holdVacant

/-- The values with one quantity's replaced. -/
def PerQuantity.set {α : Type} (v : PerQuantity α) (q : Quantity) (x : α) : PerQuantity α :=
  match q with
  | .lightScene => { v with lightScene := x }
  | .lightLevel => { v with lightLevel := x }
  | .blinds => { v with blinds := x }
  | .airBoost => { v with airBoost := x }
  | .holdVacant => { v with holdVacant := x }

/-- The event kinds in the order of their numbers, 1 to 16. -/
def EventKind.all : List EventKind :=
  [.sessionBegin, .sessionEnd, .release, .overrun, .adhoc, .airShort, .sensorFault, .blindFault, .ttRefused, .ttDone,
    .partitionMismatch, .partnerLost, .overrideRefused, .linkFault, .txAbandoned, .configClamped]

/-- The number of an event kind (section 9.5). -/
def EventKind.number : EventKind → Nat
  | .sessionBegin => 1
  | .sessionEnd => 2
  | .release => 3
  | .overrun => 4
  | .adhoc => 5
  | .airShort => 6
  | .sensorFault => 7
  | .blindFault => 8
  | .ttRefused => 9
  | .ttDone => 10
  | .partitionMismatch => 11
  | .partnerLost => 12
  | .overrideRefused => 13
  | .linkFault => 14
  | .txAbandoned => 15
  | .configClamped => 16

/-- The value held for an event kind. -/
def PerEvent.get {α : Type} (v : PerEvent α) : EventKind → α
  | .sessionBegin => v.sessionBegin
  | .sessionEnd => v.sessionEnd
  | .release => v.release
  | .overrun => v.overrun
  | .adhoc => v.adhoc
  | .airShort => v.airShort
  | .sensorFault => v.sensorFault
  | .blindFault => v.blindFault
  | .ttRefused => v.ttRefused
  | .ttDone => v.ttDone
  | .partitionMismatch => v.partitionMismatch
  | .partnerLost => v.partnerLost
  | .overrideRefused => v.overrideRefused
  | .linkFault => v.linkFault
  | .txAbandoned => v.txAbandoned
  | .configClamped => v.configClamped

/-- The values with one event kind's replaced. -/
def PerEvent.set {α : Type} (v : PerEvent α) (k : EventKind) (x : α) : PerEvent α :=
  match k with
  | .sessionBegin => { v with sessionBegin := x }
  | .sessionEnd => { v with sessionEnd := x }
  | .release => { v with release := x }
  | .overrun => { v with overrun := x }
  | .adhoc => { v with adhoc := x }
  | .airShort => { v with airShort := x }
  | .sensorFault => { v with sensorFault := x }
  | .blindFault => { v with blindFault := x }
  | .ttRefused => { v with ttRefused := x }
  | .ttDone => { v with ttDone := x }
  | .partitionMismatch => { v with partitionMismatch := x }
  | .partnerLost => { v with partnerLost := x }
  | .overrideRefused => { v with overrideRefused := x }
  | .linkFault => { v with linkFault := x }
  | .txAbandoned => { v with txAbandoned := x }
  | .configClamped => { v with configClamped := x }

/-- The event kind an occurrence belongs to (section 9.5). -/
def Detail.kind : Detail → EventKind
  | .sessionBegin _ => .sessionBegin
  | .sessionEnd _ _ => .sessionEnd
  | .release _ _ => .release
  | .overrun _ => .overrun
  | .adhoc _ => .adhoc
  | .airShort _ _ => .airShort
  | .sensorFault _ => .sensorFault
  | .blindFault _ => .blindFault
  | .ttRefused _ _ => .ttRefused
  | .ttDone _ _ _ _ => .ttDone
  | .partitionMismatch _ _ => .partitionMismatch
  | .partnerLost _ => .partnerLost
  | .overrideRefused _ _ _ => .overrideRefused
  | .linkFault _ _ => .linkFault
  | .txAbandoned _ _ => .txAbandoned
  | .configClamped _ => .configClamped

/-! ## Changing one block -/

/-- Change the Wing Link Controller alone. -/
def State.modLink (s : State) (f : Link → Link) : State := { s with link := f s.link }

/-- Change the Wing Clock alone. -/
def State.modClock (s : State) (f : Clock → Clock) : State := { s with clock := f s.clock }

/-- Change the Session Table alone. -/
def State.modSessions (s : State) (f : Sessions → Sessions) : State := { s with sessions := f s.sessions }

/-- Change the Evidence Unit alone. -/
def State.modEvidence (s : State) (f : Evidence → Evidence) : State := { s with evidence := f s.evidence }

/-- Change the Room State Machine alone. -/
def State.modRoom (s : State) (f : Room → Room) : State := { s with room := f s.room }

/-- Change the Air Share Engine alone. -/
def State.modAir (s : State) (f : Air → Air) : State := { s with air := f s.air }

/-- Change the Light Loop alone. -/
def State.modLight (s : State) (f : Light → Light) : State := { s with light := f s.light }

/-- Change the Shade Policy alone. -/
def State.modShade (s : State) (f : Shade → Shade) : State := { s with shade := f s.shade }

/-- Change the Blind Drive alone. -/
def State.modDrive (s : State) (f : Drive → Drive) : State := { s with drive := f s.drive }

/-- Change the Pair Unit alone. -/
def State.modPair (s : State) (f : Pair → Pair) : State := { s with pair := f s.pair }

/-- Change the Override Table alone. -/
def State.modOverrides (s : State) (f : Overrides → Overrides) : State := { s with overrides := f s.overrides }

/-- Change the output lines alone. -/
def State.modOut (s : State) (f : Outputs → Outputs) : State := { s with out := f s.out }

/-- Change the input lines alone. -/
def State.modPins (s : State) (f : Pins → Pins) : State := { s with pins := f s.pins }

/-- Replace the Peer Table alone. -/
def State.withPeers (s : State) (ps : List Peer) : State := { s with peers := ps }

/-- Replace what the node is doing as a whole. -/
def State.withPhase (s : State) (p : NodePhase) : State := { s with phase := p }

/-- Count one random draw as taken. -/
def State.countDraw (s : State) : State := { s with draws := s.draws + 1 }

/-! ## Time -/

/-- The largest wing minute (section 6.1 of the introduction). -/
def maxMinute : Nat := 94371839

/-- A number of seconds in milliseconds. -/
def secs (n : Nat) : Nat := n * 1000

/-- A number of minutes in milliseconds. -/
def mins (n : Nat) : Nat := n * 60000

/-- The oscillator stands at least at `due`: an expiry is the event of a timer reaching its due time (assumption log,
entry 1). -/
def State.advanceTo (s : State) (due : Nat) : State := { s with now := max s.now due }

/-- One millisecond of the oscillator (assumption log, entry 1). -/
def State.tick (s : State) : State := { s with now := s.now + 1 }

/-- A timer expires: if it runs, the oscillator stands at its due time and the expiry acts; if it does not run, it cannot
expire and nothing happens. -/
def State.onExpiry (s : State) (timer : Option Nat) (act : State → State) : State :=
  match timer with
  | none => s
  | some due => act (s.advanceTo due)

/-- The seconds of the Wing Clock, 0..59 (R1): what is left until they pass 59, counted down from the next boundary. -/
def State.seconds (s : State) : Nat :=
  59 - (s.clock.boundaryDue - s.now - 1) / 1000

/-- The whole seconds since `t`, saturating at 65535 (R167). -/
def State.ageOf (s : State) (t : Nat) : Nat := min 65535 ((s.now - t) / 1000)

/-! ## Views that several blocks read -/

/-- The configuration record (R184). -/
def State.cfg (s : State) : ConfigRecord := s.loader.record

/-- The blocks run (R182, R183). -/
def State.isRunning (s : State) : Bool := s.phase = .running

/-- A command that acts only while the blocks run (R182, R183). -/
def State.whileRunning (s : State) (act : State → State) : State := if s.isRunning then act s else s

/-- The node is the lead of a joined pair. -/
def State.isLead (s : State) : Bool := s.pair.state = .joinedLead

/-- The node is a joined follower. -/
def State.isFollower (s : State) : Bool := s.pair.state = .joinedFollow

/-- The node is joined, in either role. -/
def State.isJoined (s : State) : Bool := s.isLead || s.isFollower

/-- The node is divisible (R130): a partner is configured and is not the node itself. -/
def State.isDivisible (s : State) : Bool := s.cfg.partner ≠ 0 && s.cfg.partner ≠ s.cfg.station

/-- Life-safety is active (R158). -/
def State.lifeSafetyActive (s : State) : Bool := s.overrides.lifeSafety ≠ .off

/-- The override record of a quantity as its reader sees it: none while life-safety is active (R148). -/
def State.activeOverride (s : State) (q : Quantity) : Option OverrideRecord :=
  if s.lifeSafetyActive then none else s.overrides.records.get q

/-- The vacancy hold in milliseconds (R32). -/
def State.holdMs (s : State) : Nat := mins s.cfg.vacancyHold

/-- Evidence is fresh (R32): a time of last evidence is held and less than the vacancy hold has passed since it. -/
def State.fresh (s : State) : Bool :=
  match s.evidence.lastEvidence with
  | none => false
  | some t => s.now - t < s.holdMs

/-- The DOOR fault stands while either beam is marked stuck (R30). -/
def State.doorFault (s : State) : Bool := s.evidence.stuckMark.outer || s.evidence.stuckMark.inner

/-- The headcount that the vacancy test and ADHOC use (R34, R53): the combined headcount at a lead, the own one otherwise. -/
def State.testedHeadcount (s : State) : Nat := if s.isLead then s.pair.combined else s.evidence.headcount

/-- The held record with a session id. -/
def State.recordOf (s : State) (id : Nat) : Option Session := s.sessions.records.find? (fun r => r.id = id)

/-- The current record (R9): the one named by the mark. -/
def State.currentRecord (s : State) : Option Session := s.room.current.bind s.recordOf

/-- The current session id (R45, R66): the mark's, or the mirrored one at a joined follower. -/
def State.sessionId (s : State) : Option Nat := if s.isFollower then s.room.mirroredId else s.room.current

/-- The record the node follows (R75, R111, R152): the current record, or at a joined follower the held record whose id is the
mirrored one. -/
def State.followedRecord (s : State) : Option Session := s.sessionId.bind s.recordOf

/-- The next record (R9): the earliest held record that is not current. -/
def State.nextRecord (s : State) : Option Session :=
  s.sessions.records.find? (fun r => some r.id ≠ s.room.current)

/-- A value clamped to a range (section 6.2). -/
def clampInt (lo hi x : Int) : Int := max lo (min hi x)

end Sys2Proof.Machine
end

