-- ==== Sys2Proof/Machine/Formats.lean ====
section
/-! DEFINITION. The Formats chapter (R187 to R193): bytes and fields, the CRC, the codes, the payload layouts of the frames the
node takes, the panel's key codes and the select lines. -/

namespace Sys2Proof.Machine

/-! ## Fields (R187) -/

/-- The byte at an offset, as a number; 0 past the end. -/
def byteAt (p : List Byte) (i : Nat) : Nat := (p.getD i 0).toNat

/-- An unsigned 2-byte field, low byte first. -/
def u16 (p : List Byte) (i : Nat) : Nat := byteAt p i + 256 * byteAt p (i + 1)

/-- An unsigned 4-byte field, low byte first. -/
def u32 (p : List Byte) (i : Nat) : Nat := u16 p i + 65536 * u16 p (i + 2)

/-- A signed byte, two's complement. -/
def s8 (p : List Byte) (i : Nat) : Int := (p.getD i 0).toInt

/-- A signed 2-byte field, two's complement. -/
def s16 (p : List Byte) (i : Nat) : Int := if u16 p i < 32768 then u16 p i else (u16 p i : Int) - 65536

/-- A bit of the byte at an offset. -/
def bitAt (p : List Byte) (i b : Nat) : Bool := (p.getD i 0).getLsbD b

/-- A number as one byte. -/
def put8 (n : Nat) : List Byte := [BitVec.ofNat 8 n]

/-- A number as a 2-byte field, low byte first. -/
def put16 (n : Nat) : List Byte := [BitVec.ofNat 8 n, BitVec.ofNat 8 (n / 256)]

/-- A signed number as a byte, two's complement. -/
def putS8 (z : Int) : List Byte := [BitVec.ofInt 8 z]

/-- A signed number as a 2-byte field, two's complement, low byte first. -/
def putS16 (z : Int) : List Byte := put16 (BitVec.ofInt 16 z).toNat

/-- A flag as a number. -/
def bit (b : Bool) : Nat := if b then 1 else 0

/-! ## The CRC (R189) -/

/-- One bit of the CRC: polynomial 1021h. -/
def crcBit (c : BitVec 16) : BitVec 16 := if c.getLsbD 15 then (c <<< 1) ^^^ 0x1021#16 else c <<< 1

/-- One byte of the CRC, most significant bit first. -/
def crcByte (c : BitVec 16) (b : Byte) : BitVec 16 :=
  crcBit (crcBit (crcBit (crcBit (crcBit (crcBit (crcBit (crcBit (c ^^^ (b.zeroExtend 16 <<< 8)))))))))

/-- The CRC of a run of bytes: initial value FFFFh, no final inversion. -/
def crc16 (bytes : List Byte) : BitVec 16 := bytes.foldl crcByte 0xFFFF#16

/-- The CRC as it goes on the line: high byte first (R188). -/
def crcBytes (c : BitVec 16) : List Byte := [(c >>> 8).setWidth 8, c.setWidth 8]

/-! ## Frames on the line (R188) -/

/-- The bytes of a frame after its delimiter: source, class and kind, length, payload, CRC over all of those. -/
def frameBody (source cls kind : Nat) (payload : List Byte) : List Byte :=
  let head := put8 source ++ put8 (64 * cls + kind) ++ put8 payload.length ++ payload
  head ++ crcBytes (crc16 head)

/-- A whole frame: the delimiter 96h and the body. -/
def frameOnLine (source cls kind : Nat) (payload : List Byte) : List Byte :=
  0x96#8 :: frameBody source cls kind payload

/-- The checks of R163 on the bytes gathered after the delimiter, in their order: framing, length field, completeness, CRC. -/
def frameFault (bytes : List Byte) (badStop : Bool) : Option LinkFault :=
  if badStop then some .framing
  else if byteAt bytes 2 > 24 then some .length
  else if bytes.length < byteAt bytes 2 + 5 then some .length
  else if crcBytes (crc16 (bytes.take (byteAt bytes 2 + 3))) ≠ (bytes.drop (byteAt bytes 2 + 3)).take 2 then some .crc
  else none

/-! ## Codes (R190) -/

/-- The occupancy codes. -/
def Occupancy.code : Occupancy → Nat
  | .vacant => 0
  | .precondition => 1
  | .expected => 2
  | .occupied => 3
  | .released => 4
  | .overrun => 5
  | .adhoc => 6

/-- The occupancy state of a code; none above 6. -/
def Occupancy.ofCode : Nat → Option Occupancy
  | 0 => some .vacant
  | 1 => some .precondition
  | 2 => some .expected
  | 3 => some .occupied
  | 4 => some .released
  | 5 => some .overrun
  | 6 => some .adhoc
  | _ => none

/-- The pair state codes. -/
def PairState.code : PairState → Nat
  | .single => 0
  | .offering => 1
  | .joinedLead => 2
  | .joinedFollow => 3
  | .partnerLost => 4

/-- The life-safety mode codes. -/
def LifeSafety.code : LifeSafety → Nat
  | .off => 0
  | .evacuate => 1
  | .smokeHold _ => 2

/-- The blind policy codes. -/
def BlindPolicy.code : BlindPolicy → Nat
  | .followGlare => 0
  | .project => 1
  | .openUp => 2

/-- The blind policy of a code; none above 2. -/
def BlindPolicy.ofCode : Nat → Option BlindPolicy
  | 0 => some .followGlare
  | 1 => some .project
  | 2 => some .openUp
  | _ => none

/-- The session kind of a code; none above 3. -/
def SessionKind.ofCode : Nat → Option SessionKind
  | 0 => some .lecture
  | 1 => some .seminar
  | 2 => some .exam
  | 3 => some .event
  | _ => none

/-- The preference policy of a code; none for 3. -/
def PrefPolicy.ofCode : Nat → Option PrefPolicy
  | 0 => some .noPolicy
  | 1 => some .openUp
  | 2 => some .project
  | _ => none

/-- The quantity of a code; none above 4. -/
def Quantity.ofCode : Nat → Option Quantity
  | 0 => some .lightScene
  | 1 => some .lightLevel
  | 2 => some .blinds
  | 3 => some .airBoost
  | 4 => some .holdVacant
  | _ => none

/-- The kind codes of the pair-control messages (section 11.1). -/
def PairMsg.code : PairMsg → Nat
  | .joinOffer => 0x10
  | .joinAccept => 0x11
  | .joinRefuse => 0x12
  | .joinLeave => 0x13

/-- The forwarded keys' codes; 0 is absent. -/
def ForwardKey.code : ForwardKey → Nat
  | .scene => 1
  | .lightUp => 2
  | .lightDown => 3

/-- The frame kind code of a report (section 11.1). A PAIR_CTRL report's code is that of its message. -/
def ReportKind.code (k : ReportKind) (msg : Option PairMsg) : Nat :=
  match k with
  | .pairCtrl => match msg with
    | some m => m.code
    | none => 0x10
  | .pairState => 0x14
  | .event _ => 0x23
  | .demand => 0x09
  | .roomStatus => 0x22
  | .identity => 0x21

/-- The reasons' codes, kind 3. -/
def ReleaseReason.code : ReleaseReason → Nat
  | .noShow => 0
  | .earlyLeave => 1

/-- The inputs' codes, kind 7. -/
def SensorInput.code : SensorInput → Nat
  | .co2 => 0
  | .photo => 1
  | .irrad => 2
  | .door => 3

/-- The reasons' codes, kind 9. -/
def RefuseReason.code : RefuseReason → Nat
  | .overlap => 0
  | .past => 1
  | .full => 2
  | .badField => 3

/-- The reasons' codes, kind 10. -/
def DoneReason.code : DoneReason → Nat
  | .complete => 0
  | .indexGap => 1
  | .timeout => 2
  | .superseded => 3
  | .restart => 4

/-- The reasons' codes, kind 13. -/
def RefusalReason.code : RefusalReason → Nat
  | .privilege => 0
  | .outranked => 1
  | .safety => 2
  | .held => 3

/-- The subject of OVERRIDE_REFUSED: a quantity code, 40h plus a frame kind code, or 0Fh for ROOM OFF. -/
def Subject.code : Subject → Nat
  | .quantity q => q.code
  | .frame k => 0x40 + k
  | .roomOff => 0x0F

/-- The fault types' codes, kind 14. -/
def LinkFault.code : LinkFault → Nat
  | .crc => 0
  | .framing => 1
  | .length => 2

/-- The detail bytes of an event, before the unused ones (R190). -/
def Detail.bytes : Detail → List Byte
  | .sessionBegin sid => put16 sid
  | .sessionEnd sid overran => put16 sid ++ put8 (bit overran)
  | .release sid reason => put16 sid ++ put8 reason.code
  | .overrun sid => put16 sid
  | .adhoc headcount => put16 headcount
  | .airShort d g => put16 d ++ put16 g
  | .sensorFault input => put8 input.code
  | .blindFault b => put8 b.number
  | .ttRefused sid reason => put16 sid ++ put8 reason.code
  | .ttDone gen accepted remaining reason => put8 gen ++ put8 accepted ++ put8 remaining ++ put8 reason.code
  | .partitionMismatch partner readsOpen => put8 partner ++ put8 (bit readsOpen)
  | .partnerLost partner => put8 partner
  | .overrideRefused source subject reason => put8 source ++ put8 subject.code ++ put8 reason.code
  | .linkFault type source => put8 type.code ++ put8 source
  | .txAbandoned code event => put8 code ++ put8 event
  | .configClamped index => put8 index

/-- A run of bytes filled with zeros to a length (R189: fields a layout does not assign are sent as 0). -/
def padTo (n : Nat) (bytes : List Byte) : List Byte := bytes ++ List.replicate (n - bytes.length) 0

/-! ## Payloads the node takes (R190)

Each is none when the payload is shorter than its layout; bytes beyond the layout are ignored. -/

/-- A payload of at least the layout's length, decoded. -/
def layout {α : Type} (n : Nat) (p : List Byte) (x : α) : Option α := if p.length < n then none else some x

/-- The fields of TIME. -/
structure TimeFields where
  day : Nat
  minuteOfDay : Nat
  second : Nat
  deriving DecidableEq, Repr

/-- TIME, length 5. -/
def decodeTime (p : List Byte) : Option TimeFields := layout 5 p ⟨u16 p 0, u16 p 2, byteAt p 4⟩

/-- The fields of TT_BEGIN. -/
structure TtBeginFields where
  generation : Nat
  count : Nat
  replace : Bool
  deriving DecidableEq, Repr

/-- TT_BEGIN, length 3. -/
def decodeTtBegin (p : List Byte) : Option TtBeginFields := layout 3 p ⟨byteAt p 0, byteAt p 1, bitAt p 2 0⟩

/-- The fields of TT_ENTRY, codes as received. -/
structure TtEntryFields where
  generation : Nat
  index : Nat
  room : Nat
  session : Nat
  start : Nat
  finish : Nat
  kind : Nat
  scene : Nat
  expected : Nat
  lead : Nat
  grace : Nat
  prefPresent : Bool
  prefPolicy : Nat
  trim : Int
  deriving DecidableEq, Repr

/-- TT_ENTRY, length 23. -/
def decodeTtEntry (p : List Byte) : Option TtEntryFields :=
  layout 23 p
    { generation := byteAt p 0
      index := byteAt p 1
      room := u16 p 2
      session := u16 p 4
      start := u32 p 6
      finish := u32 p 10
      kind := byteAt p 14
      scene := byteAt p 15
      expected := u16 p 16
      lead := byteAt p 18
      grace := byteAt p 19
      prefPresent := bitAt p 20 7
      prefPolicy := byteAt p 20 % 4
      trim := s16 p 21 }

/-- TT_CANCEL, length 2: the session id. -/
def decodeTtCancel (p : List Byte) : Option Nat := layout 2 p (u16 p 0)

/-- The fields of CAPACITY. -/
structure CapacityFields where
  riser : Nat
  capacity : Nat
  running : Bool
  deriving DecidableEq, Repr

/-- CAPACITY, length 4; an undefined supply state is ignored. -/
def decodeCapacity (p : List Byte) : Option CapacityFields :=
  if p.length < 4 then none
  else if byteAt p 3 = 0 then some ⟨byteAt p 0, u16 p 1, true⟩
  else if byteAt p 3 = 1 then some ⟨byteAt p 0, u16 p 1, false⟩
  else none

/-- The fields of DEMAND. -/
structure DemandFields where
  riser : Nat
  demand : Nat
  floor : Nat
  airClass : Nat
  deriving DecidableEq, Repr

/-- DEMAND, length 6. -/
def decodeDemand (p : List Byte) : Option DemandFields := layout 6 p ⟨byteAt p 0, u16 p 1, u16 p 3, byteAt p 5⟩

/-- JOIN_OFFER, length 4: M_max and headcount. -/
def decodeJoinOffer (p : List Byte) : Option (Nat × Nat) := layout 4 p (u16 p 0, u16 p 2)

/-- JOIN_ACCEPT, length 2: M_max. -/
def decodeJoinAccept (p : List Byte) : Option Nat := layout 2 p (u16 p 0)

/-- A lead's PAIR_STATE, codes checked. -/
structure LeadFields where
  occupancy : Occupancy
  session : Option Nat
  combined : Nat
  mirror : Mirror
  deriving DecidableEq, Repr

/-- A follower's PAIR_STATE. -/
structure FollowFields where
  headcount : Nat
  evidence : Bool
  forwarded : Option Forwarded
  sequence : Nat
  deriving DecidableEq, Repr

/-- The role byte and the length of a PAIR_STATE: some 0 a lead's, some 1 a follower's, none for a payload too short
for its role. A role byte above 1 has no layout: it is no role that complements any. -/
def pairStateRole (p : List Byte) : Option Nat :=
  if p.length < 1 then none
  else if byteAt p 0 = 0 then layout 11 p 0
  else if byteAt p 0 = 1 then layout 7 p 1
  else some (byteAt p 0)

/-- A lead's PAIR_STATE, length 11; none when one of its codes is undefined (R190). -/
def decodeLead (p : List Byte) : Option LeadFields :=
  match Occupancy.ofCode (byteAt p 1), BlindPolicy.ofCode (byteAt p 7 % 4) with
  | some occ, some pol =>
    if byteAt p 4 > 7 then none
    else if 8 ≤ byteAt p 8 ∧ byteAt p 8 ≤ 0xFE then none
    else
      some
        { occupancy := occ
          session := if u16 p 2 = 0 then none else some (u16 p 2)
          combined := min 511 (u16 p 5)
          mirror :=
            { scene := byteAt p 4
              lightScene := if byteAt p 8 = 0xFF then none else some (byteAt p 8)
              lightLevel := if u16 p 9 = 0x8000 then none else some (s16 p 9)
              policy := pol
              glare := bitAt p 7 7 } }
  | _, _ => none

/-- The forwarded request of a follower's PAIR_STATE: an undefined key, or a scene number that is none, is absent (R190 and
assumption log, entry 12). -/
def decodeForwarded (p : List Byte) : Option Forwarded :=
  if byteAt p 4 = 1 then (if 0 ≤ s8 p 5 ∧ s8 p 5 ≤ 7 then some ⟨.scene, s8 p 5⟩ else none)
  else if byteAt p 4 = 2 then some ⟨.lightUp, s8 p 5⟩
  else if byteAt p 4 = 3 then some ⟨.lightDown, s8 p 5⟩
  else none

/-- A follower's PAIR_STATE, length 7. The headcount is kept in its range 0..511 (assumption log, entry 12). -/
def decodeFollow (p : List Byte) : FollowFields :=
  { headcount := min 511 (u16 p 1)
    evidence := byteAt p 3 ≠ 0
    forwarded := decodeForwarded p
    sequence := byteAt p 6 }

/-- The fields of OVERRIDE, codes as received. -/
structure OverrideFields where
  room : Nat
  quantity : Nat
  clear : Bool
  level : Nat
  value : Int
  duration : Nat
  deriving DecidableEq, Repr

/-- OVERRIDE, length 9. -/
def decodeOverride (p : List Byte) : Option OverrideFields :=
  layout 9 p ⟨u16 p 0, byteAt p 2, bitAt p 3 0, byteAt p 4, s16 p 5, u16 p 7⟩

/-- HOLD, length 2: the target and ON or OFF; an undefined value is ignored. -/
def decodeHold (p : List Byte) : Option (Nat × Bool) :=
  if p.length < 2 then none
  else if byteAt p 1 = 0 then some (byteAt p 0, false)
  else if byteAt p 1 = 1 then some (byteAt p 0, true)
  else none

/-- RESTART, length 1: the target. -/
def decodeRestart (p : List Byte) : Option Nat := layout 1 p (byteAt p 0)

/-- LIFE_SAFETY, length 3; an undefined mode is ignored, and a position above 1000 is clamped (R158). -/
def decodeLifeSafety (p : List Byte) : Option LifeSafety :=
  if p.length < 3 then none
  else if byteAt p 0 = 0 then some .off
  else if byteAt p 0 = 1 then some .evacuate
  else if byteAt p 0 = 2 then some (.smokeHold (min 1000 (u16 p 1)))
  else none

/-- QUERY, length 3: the station address and the room id. -/
def decodeQuery (p : List Byte) : Option (Nat × Nat) := layout 3 p (byteAt p 0, u16 p 1)

/-! ## The panel line (R192) and the select lines (R193) -/

/-- The key a panel byte decodes to. -/
def decodeKey (b : Byte) : Option Key :=
  if b &&& 0xF8#8 = 0x10#8 then some (.scene ⟨b.toNat % 8, Nat.mod_lt _ (by decide)⟩)
  else if b = 0x20#8 then some .lightUp
  else if b = 0x21#8 then some .lightDown
  else if b = 0x30#8 then some .blindsUp
  else if b = 0x31#8 then some .blindsDown
  else if b = 0x32#8 then some .blindsStop
  else if b = 0x40#8 then some .airBoost
  else if b = 0x50#8 then some .roomOff
  else none

/-- The three bytes of an indicator frame. -/
def Indicator.bytes (i : Indicator) : List Byte :=
  0xC5#8 :: put8 i.occupancy.code ++ put8 (i.scene + 128 * bit i.accepted)

/-- The levels of BSEL1 and BSEL0 for a bank. -/
def Bank.selectLines (b : Bank) : Bool × Bool := (b.number / 2 % 2 = 1, b.number % 2 = 1)

end Sys2Proof.Machine
end

