-- ==== Sys2Proof/Decode.lean ====
section
/-! DEFINITION. From bits to commands: the table's words (no row has bits), the frames of the wing bus (R163, R188, R190) and the
bytes of the panel line (R154, R192). -/

namespace Sys2Proof

open Sys2Proof.Machine

/-- The command that a table word spells. spec/opcode_table.json gives none of its rows any bits: a command is an event, not a
word, and no word spells one. -/
def decodeTableWord (_nbits _w : Nat) : Option Instr := none

/-! ## Frames -/

/-- The frame that a completed run of bytes carries, as the receive path hands it on (R188). The bytes are those after the
delimiter. -/
def frameOf (bytes : List Byte) (overlapsOwn : Bool) : Frame :=
  { src := bytes.getD 0 0
    cls := ((bytes.getD 1 0) >>> 6).setWidth 2
    payload := (bytes.drop 3).take (byteAt bytes 2)
    overlapsOwn := overlapsOwn }

/-- The frame kind code of a completed run of bytes (R188). -/
def frameKind (bytes : List Byte) : BitVec 6 := (bytes.getD 1 0).setWidth 6

/-- The command of an OVERRIDE frame: its CLEAR bit tells the two rows apart. -/
def overrideCommand (f : Frame) : Instr := if bitAt f.payload 3 0 then .overrideClear f else .override f

/-- The command of a HOLD frame. One of an undefined value is ignored in either row (R190). -/
def holdCommand (f : Frame) : Instr := if byteAt f.payload 1 = 1 then .holdOn f else .holdOff f

/-- The command of a LIFE_SAFETY frame. One of an undefined mode is ignored in any row (R190). -/
def lifeSafetyCommand (f : Frame) : Instr :=
  if byteAt f.payload 0 = 1 then .lifeSafetyEvacuate f
  else if byteAt f.payload 0 = 2 then .lifeSafetySmokeHold f
  else .lifeSafetyClear f

/-- The command of a frame of a kind (R165, section 11.1). -/
def kindCommand (kind : BitVec 6) (f : Frame) : Instr :=
  if kind = 0x01#6 then .time f
  else if kind = 0x02#6 then .ttBegin f
  else if kind = 0x03#6 then .ttEntry f
  else if kind = 0x04#6 then .ttCancel f
  else if kind = 0x08#6 then .capacity f
  else if kind = 0x09#6 then .demand f
  else if kind = 0x10#6 then .joinOffer f
  else if kind = 0x11#6 then .joinAccept f
  else if kind = 0x12#6 then .joinRefuse f
  else if kind = 0x13#6 then .joinLeave f
  else if kind = 0x14#6 then .pairState f
  else if kind = 0x18#6 then overrideCommand f
  else if kind = 0x19#6 then holdCommand f
  else if kind = 0x1A#6 then .restart f
  else if kind = 0x1B#6 then lifeSafetyCommand f
  else if kind = 0x20#6 then .query f
  else .otherFrame kind f

/-- The command that the end of a frame makes, the bytes gathered after its delimiter (R163): a discard, or the command of its
kind. -/
def frameCommand (bytes : List Byte) (badStop overlapsOwn : Bool) : Instr :=
  match frameFault bytes badStop with
  | some _ => .frameDiscard bytes badStop
  | none => kindCommand (frameKind bytes) (frameOf bytes overlapsOwn)

/-! ## The panel line -/

/-- The command of a key (R155, R156). -/
def keyCommand : Key → Instr
  | .scene n => .sceneKey n
  | .lightUp => .lightUp
  | .lightDown => .lightDown
  | .blindsUp => .blindsUp
  | .blindsDown => .blindsDown
  | .blindsStop => .blindsStop
  | .airBoost => .airBoostKey
  | .roomOff => .roomOff

/-- The command that a byte on PNRX makes (R154): the key it decodes to, or a discard. -/
def panelCommand (byte : Byte) (framingError : Bool) : Instr :=
  if framingError then .panelByteDiscard byte framingError
  else
    match decodeKey byte with
    | some k => keyCommand k
    | none => .panelByteDiscard byte framingError

end Sys2Proof
end

