-- ==== Sys2Proof/Config.lean ====
section
/-! DEFINITION. What the manual leaves to the part or to chance: constants without a body, so that every statement holds for
every value they could have. Assumption log, entries 3 and 4. -/

namespace Sys2Proof

/-- The random draws of the transmit path's backoff (R169), one for each use: the n-th draw of the run, before it is reduced
to its range 0..(2^m - 1). Free: nothing says what is drawn. -/
opaque Config.backoffDraw : Nat → Nat

/-- The silicon revision byte of IDENTITY (R180, R190), fixed in the part and not given in the manual. Free. -/
opaque Config.siliconRevision : Byte

end Sys2Proof
end

