-- ==== Sys2Proof/Machine/ReportQueue.lean ====
section
/-! DEFINITION. The report queue and the event latches (sections 9.4 and 9.5): queuing a kind, evicting for space, removing an
entry, latching an occurrence, and refilling the queue. -/

namespace Sys2Proof.Machine

/-! ## The order of the queue (R172) -/

/-- The priority number of a report kind. -/
def priority (c : ConfigRecord) : ReportKind → Nat
  | .pairCtrl => 1
  | .pairState => 1
  | .event k => (c.events.get k).priority
  | .demand => 2
  | .roomStatus => 5
  | .identity => 6

/-- The fixed order of kinds among equal priorities. -/
def kindOrder : ReportKind → Nat
  | .pairCtrl => 0
  | .pairState => 1
  | .event k => k.number + 1
  | .demand => 18
  | .roomStatus => 19
  | .identity => 20

/-- The place of a kind in the queue's order: by priority number, then by the fixed order. Lower stands ahead. -/
def urgency (c : ConfigRecord) (k : ReportKind) : Nat := 21 * priority c k + kindOrder k

/-- An entry put at its place in the order. -/
def insertEntry (c : ConfigRecord) (e : Entry) : List Entry → List Entry
  | [] => [e]
  | x :: xs => if urgency c e.kind < urgency c x.kind then e :: x :: xs else x :: insertEntry c e xs

/-! ## Looking at the queue -/

/-- An entry of the kind is queued. -/
def State.isQueued (s : State) (k : ReportKind) : Bool := s.link.queue.any (fun e => e.kind = k)

/-- The entry of a kind, if queued. -/
def State.entryOf (s : State) (k : ReportKind) : Option Entry := s.link.queue.find? (fun e => e.kind = k)

/-- The entry of the kind is in flight (R168): an attempt of its frame runs, and the entry has not been removed since. -/
def State.inFlight (s : State) (k : ReportKind) : Bool :=
  match s.link.attempt with
  | some a => a.kind = k && !a.orphan
  | none => false

/-- The least urgent entry that is not in flight (R174). -/
def State.leastUrgent (s : State) : Option Entry := s.link.queue.reverse.find? (fun e => !s.inFlight e.kind)

/-! ## Placing and removing -/

/-- Put an entry at its place, space being sure. -/
def State.insertReport (s : State) (e : Entry) : State :=
  s.modLink fun l => { l with queue := insertEntry s.cfg e l.queue }

/-- Take the entry of a kind out of the queue. -/
def State.dropEntry (s : State) (k : ReportKind) : State :=
  s.modLink fun l => { l with queue := l.queue.filter (fun e => e.kind ≠ k) }

/-- Place an entry of a kind that is not queued (R174): where 8 are queued, it evicts the least urgent entry not in flight if
it would stand ahead of it, and otherwise is not placed. -/
def State.placeEntry (s : State) (e : Entry) : State :=
  if s.link.queue.length < 8 then s.insertReport e
  else
    match s.leastUrgent with
    | some v => if urgency s.cfg e.kind < urgency s.cfg v.kind then (s.dropEntry v.kind).insertReport e else s
    | none => s

/-- A request to queue a kind with a message (R173, R174): a kind already queued keeps its entry, takes the new message, and
is marked for requeue if it is in flight. -/
def State.queueWith (s : State) (k : ReportKind) (msg : Option PairMsg) : State :=
  if s.isQueued k then
    s.modLink fun l =>
      { l with
        queue := l.queue.map fun e =>
          if e.kind = k then { e with msg := msg, requeue := e.requeue || s.inFlight k } else e }
  else s.placeEntry ⟨k, 0, false, msg⟩

/-- Queue a kind that carries no message. -/
def State.queueReport (s : State) (k : ReportKind) : State := s.queueWith k none

/-- Queue a pair-control message (chapter 7). -/
def State.queuePairCtrl (s : State) (m : PairMsg) : State := s.queueWith .pairCtrl (some m)

/-! ## Event latches -/

/-- The report of an event kind is enabled (R177). -/
def State.eventEnabled (s : State) (k : EventKind) : Bool := (s.cfg.events.get k).enabled

/-- A ROOM_STATUS in flight carries the flag of a disabled kind set (R179). -/
def State.statusCarries (s : State) (k : EventKind) : Bool :=
  match s.link.attempt with
  | some a => a.kind = .roomStatus && a.mask.getLsbD (k.number - 1)
  | none => false

/-- A later part after one more occurrence (R176). -/
def countLater (d : Detail) : Option LaterPart → LaterPart
  | none => ⟨d, 1⟩
  | some p => { p with count := min 255 (p.count + 1) }

/-- A latch after an occurrence (R176): a clear latch is set; a set one counts, or, while its EVENT frame is in flight, records
the occurrence in its later part. While a ROOM_STATUS that carried its flag is in flight, a disabled latch counts and also
keeps what has come since (R179). -/
def latchOccurrence (l : Option Latch) (d : Detail) (eventInFlight statusInFlight : Bool) : Latch :=
  match l with
  | none => ⟨d, 1, none⟩
  | some x =>
    if eventInFlight then { x with later := some (countLater d x.later) }
    else if statusInFlight then { x with count := min 255 (x.count + 1), later := some (countLater d x.later) }
    else { x with count := min 255 (x.count + 1) }

/-- Replace one latch. -/
def State.setLatch (s : State) (k : EventKind) (l : Option Latch) : State :=
  s.modLink fun w => { w with latches := w.latches.set k l }

/-- One occurrence of an event (R176, R177): its latch takes it, and an enabled kind without an entry is queued, or waits. -/
def State.latchEvent (s : State) (d : Detail) : State :=
  let l := latchOccurrence (s.link.latches.get d.kind) d (s.inFlight (.event d.kind)) (s.statusCarries d.kind)
  let s' := s.setLatch d.kind (some l)
  if s'.eventEnabled d.kind && !s'.isQueued (.event d.kind) then s'.queueReport (.event d.kind) else s'

/-! ## Refilling (R175) -/

/-- A waiting enabled kind is queued while space remains. -/
def State.refillKind (s : State) (k : EventKind) : State :=
  if s.link.queue.length < 8 && s.eventEnabled k && (s.link.latches.get k).isSome && !s.isQueued (.event k) then
    s.insertReport ⟨.event k, 0, false, none⟩
  else s

/-- Every waiting kind is tried in the order EVENT 1 to EVENT 16. -/
def State.refill (s : State) : State := EventKind.all.foldl State.refillKind s

/-- The attempt in flight goes on without its entry (R173). -/
def State.orphanAttempt (s : State) (k : ReportKind) : State :=
  s.modLink fun l =>
    { l with attempt := l.attempt.map fun a => if a.kind = k then { a with orphan := true } else a }

/-- An owner's request to remove its entry (R173, R175), even in flight. -/
def State.removeReport (s : State) (k : ReportKind) : State :=
  if s.isQueued k then ((s.orphanAttempt k).dropEntry k).refill else s

end Sys2Proof.Machine
end

