-- ==== Sys2Proof/Machine/BlindDrive.lean ====
section
/-! DEFINITION. The Blind Drive (chapter 6): positions by timing, moves, cuts and trips, requests, grants, homing, and its own
part in hold, life-safety and restart. -/

namespace Sys2Proof.Machine

/-! ## Ranks and timing -/

/-- The rank of an origin: SAFETY highest (R114). -/
def Origin.rank : Origin → Nat
  | .scene => 0
  | .glare => 1
  | .override => 2
  | .safety => 3

/-- The distance between two positions. -/
def distance (a b : Nat) : Nat := (a - b) + (b - a)

/-- The travel time T_b of a bank, in seconds. -/
def State.travelTime (s : State) (b : Bank) : Nat := (s.cfg.banks.get b).travel

/-- The milliseconds a bank takes for one percent: 10 × T_b (R116). -/
def State.msPerPercent (s : State) (b : Bank) : Nat := 10 * s.travelTime b

/-- The position at which a TRAVEL move stands now (R118): the percent run since its start, at most the way to its target. -/
def State.cutPosition (s : State) (m : Move) : Nat :=
  let run := min ((s.now - m.startAt) / s.msPerPercent m.bank) (distance m.startPos m.target)
  match m.direction with
  | .lower => m.startPos + run
  | .raise => m.startPos - run

/-- The current position of a bank (R120). -/
def State.currentPosition (s : State) (b : Bank) : Nat :=
  match s.drive.move with
  | some m => if m.bank = b ∧ m.phase = .travel then s.cutPosition m else s.drive.pos.get b
  | none => s.drive.pos.get b

/-- The due time of a TRAVEL move (R116), or the end of the homing time (T_b + 5) s (R124). -/
def State.moveDue (s : State) (m : Move) : Nat :=
  match m.phase with
  | .travel => m.startAt + distance m.startPos m.target * s.msPerPercent m.bank
  | .homing _ => m.startAt + secs (s.travelTime m.bank + 5)

/-! ## Small changes -/

/-- Set a bank's position. -/
def State.setPosition (s : State) (b : Bank) (p : Nat) : State := s.modDrive fun d => { d with pos := d.pos.set b p }

/-- Set or clear a bank's uncertain flag. -/
def State.setUncertain (s : State) (b : Bank) (u : Bool) : State :=
  s.modDrive fun d => { d with uncertain := d.uncertain.set b u }

/-- Set or clear a bank's pending request. -/
def State.setWaiting (s : State) (b : Bank) (t : Option Target) : State :=
  s.modDrive fun d => { d with waiting := d.waiting.set b t }

/-- Negate both motor lines and hold no move in flight; the select lines stand (R115). -/
def State.stopMotor (s : State) : State :=
  (s.modDrive fun d => { d with move := none }).modOut fun o => { o with motorUp := false, motorDown := false }

/-- Hold a move in flight and drive its lines: the select lines first, then BMUP or BMDN (R115). -/
def State.runMotor (s : State) (m : Move) : State :=
  (s.modDrive fun d => { d with move := some m }).modOut fun o =>
    { o with selected := m.bank, motorUp := m.direction = .raise, motorDown := m.direction = .lower }

/-- The direction toward a target (R116). -/
def directionTo (target pos : Nat) : Direction := if pos < target then .lower else .raise

/-- The TRAVEL move from a bank's position toward a target, starting now (R116). -/
def State.travelMove (s : State) (b : Bank) (t : Target) : Move :=
  { bank := b
    phase := .travel
    direction := directionTo t.pos (s.drive.pos.get b)
    startPos := s.drive.pos.get b
    startAt := s.now
    target := t.pos
    origin := t.origin }

/-- The HOMING move of a bank with a follow-on target, starting now (R124). -/
def State.homingMove (s : State) (b : Bank) (t : Target) : Move :=
  { bank := b
    phase := .homing t
    direction := .raise
    startPos := s.drive.pos.get b
    startAt := s.now
    target := 0
    origin := t.origin }

/-! ## Ending a move, starting a move -/

/-- A cut (R118): a TRAVEL move's bank stands where the timing puts it; a homing's bank stays uncertain where it stood. -/
def State.cutMove (s : State) (m : Move) : State :=
  match m.phase with
  | .travel => (s.setPosition m.bank (s.cutPosition m)).stopMotor
  | .homing _ => s.stopMotor

/-- The end of a move as a trip, before the grant (R119): the position as a cut sets it, the bank uncertain, BLIND_FAULT. -/
def State.tripMove (s : State) (m : Move) : State :=
  ((s.cutMove m).setUncertain m.bank true).latchEvent (.blindFault m.bank)

/-- A move would start (R116, R124): with the trip input asserted it ends at once as a trip and the motor is not started;
otherwise it is a homing on an uncertain bank and a TRAVEL move on another. -/
def State.startMove (s : State) (b : Bank) (t : Target) : State :=
  if s.pins.btrip then (s.setUncertain b true).latchEvent (.blindFault b)
  else if s.drive.uncertain.get b then s.runMotor (s.homingMove b t)
  else s.runMotor (s.travelMove b t)

/-- A request for a bank asks for no move: the bank is certain and stands at the target (R121). -/
def State.standsAt (s : State) (b : Bank) (t : Target) : Bool :=
  !s.drive.uncertain.get b && s.drive.pos.get b = t.pos

/-! ## The grant (R123) -/

/-- A pending request that the grant may choose: none while hold is on unless its origin is SAFETY. -/
def State.grantable (s : State) (b : Bank) : Option Target :=
  match s.drive.waiting.get b with
  | some t => if s.overrides.hold && t.origin ≠ .safety then none else some t
  | none => none

/-- Of two choices the one of the higher origin, and of equal origins the first. -/
def betterChoice (best : Option (Bank × Target)) (b : Bank) (t : Option Target) : Option (Bank × Target) :=
  match best, t with
  | none, some x => some (b, x)
  | some (_, y), some x => if y.origin.rank < x.origin.rank then some (b, x) else best
  | _, none => best

/-- The pending request that the grant chooses: highest origin, then lowest bank number. -/
def State.grantChoice (s : State) : Option (Bank × Target) :=
  Bank.all.foldl (fun best b => betterChoice best b (s.grantable b)) none

/-- The grant: while no move is in flight, the chosen request's move starts; a request that asks for no move is discarded, and
a move that trips at once frees the supply for the next choice. Each turn clears one of the three pending requests, so three
turns settle it. -/
def State.grantTurns : Nat → State → State
  | 0, s => s
  | n + 1, s =>
    if s.drive.move.isSome then s
    else
      match s.grantChoice with
      | none => s
      | some (b, t) =>
        let s' := s.setWaiting b none
        if s'.standsAt b t then grantTurns n s' else grantTurns n (s'.startMove b t)

/-- The grant of R123. -/
def State.grant (s : State) : State := s.grantTurns 3

/-! ## Requests (R121, R122, R125, R126) -/

/-- What a cut leaves of the request that caused it: pending, unless the bank stands at its target. -/
def State.keepUnlessThere (s : State) (b : Bank) (t : Target) : State :=
  s.setWaiting b (if s.standsAt b t then none else some t)

/-- A request that cuts the move of its bank, is kept, and frees the supply (R122, R126). -/
def State.cutForRequest (s : State) (m : Move) (t : Target) : State :=
  ((s.cutMove m).keepUnlessThere m.bank t).grant

/-- The target lies beyond the current position in the move's direction (R122). -/
def State.liesAhead (s : State) (m : Move) (t : Target) : Bool :=
  match m.direction with
  | .lower => s.cutPosition m < t.pos
  | .raise => t.pos < s.cutPosition m

/-- A request for the bank of the move in flight: during hold a request without origin SAFETY cuts a SAFETY move (R126); a
homing takes it as its follow-on (R125); a TRAVEL move is retargeted or cut (R122). -/
def State.requestMoving (s : State) (m : Move) (t : Target) : State :=
  if s.overrides.hold && m.origin = .safety && t.origin ≠ .safety then s.cutForRequest m t
  else
    match m.phase with
    | .homing _ => s.modDrive fun d => { d with move := some { m with phase := .homing t, origin := t.origin } }
    | .travel =>
      if s.liesAhead m t then
        s.modDrive fun d => { d with move := some { m with target := t.pos, origin := t.origin } }
      else s.cutForRequest m t

/-- A request for a bank that is not moving (R121). -/
def State.requestStanding (s : State) (b : Bank) (t : Target) : State :=
  if s.standsAt b t then s.setWaiting b none
  else if s.drive.move.isNone && (!s.overrides.hold || t.origin = .safety) then
    ((s.setWaiting b none).startMove b t).grant
  else s.setWaiting b (some t)

/-- A request for a bank. While life-safety is active a request without origin SAFETY is discarded (R127). -/
def State.requestBank (s : State) (b : Bank) (t : Target) : State :=
  if s.lifeSafetyActive && t.origin ≠ .safety then s
  else
    match s.drive.move with
    | some m => if m.bank = b then s.requestMoving m t else s.requestStanding b t
    | none => s.requestStanding b t

/-! ## Hold, life-safety, restart, and the ends of moves -/

/-- What the drive does at HOLD ON (R126), hold being on already: a move without origin SAFETY is cut, its target kept pending
unless the cut leaves the bank there. -/
def State.driveHoldOn (s : State) : State :=
  match s.drive.move with
  | some m =>
    if m.origin = .safety then s
    else
      match m.phase with
      | .homing follow => s.cutForRequest m follow
      | .travel => s.cutForRequest m ⟨m.target, m.origin⟩
  | none => s

/-- What the drive does of its own at the start of life-safety (R127). -/
def State.driveLifeSafety (s : State) : State :=
  let s' := s.modDrive fun d => { d with waiting := ⟨none, none, none⟩ }
  match s'.drive.move with
  | some m =>
    match m.phase, m.direction with
    | .homing _, _ => s'.modDrive fun d => { d with move := some { m with phase := .homing ⟨0, .safety⟩, origin := .safety } }
    | .travel, .raise => s'.modDrive fun d => { d with move := some { m with target := 0, origin := .safety } }
    | .travel, .lower => s'.cutMove m
  | none => s'

/-- What the drive does at a soft restart (R128): the move is cut with nothing made pending, and nothing stays pending. -/
def State.driveStop (s : State) : State :=
  let s' := match s.drive.move with
    | some m => s.cutMove m
    | none => s
  s'.modDrive fun d => { d with waiting := ⟨none, none, none⟩ }

/-- The completion of a TRAVEL move (R117). -/
def State.completeTravel (s : State) (m : Move) : State := ((s.setPosition m.bank m.target).stopMotor).grant

/-- The end of the homing time (R124): the bank is certain at 0, and the move goes on to its follow-on target or ends. -/
def State.endHoming (s : State) (m : Move) (follow : Target) : State :=
  let s' := (s.setPosition m.bank 0).setUncertain m.bank false
  if follow.pos = 0 then s'.stopMotor.grant else s'.runMotor (s'.travelMove m.bank follow)

/-- A TRAVEL move reaches its due time (R117); nothing where none is in flight. -/
def State.travelDone (s : State) : State :=
  match s.drive.move with
  | some m =>
    match m.phase with
    | .travel => (s.advanceTo (s.moveDue m)).completeTravel m
    | .homing _ => s
  | none => s

/-- A homing time ends (R124); nothing where none is in flight. -/
def State.homingDone (s : State) : State :=
  match s.drive.move with
  | some m =>
    match m.phase with
    | .homing follow => (s.advanceTo (s.moveDue m)).endHoming m follow
    | .travel => s
  | none => s

/-- A trip (R119); nothing where no move is in flight. A trip taken after a completion whose grant has started another bank finds
that move and ends it (DEDUCED: assumption log, entry 31). -/
def State.tripNow (s : State) : State :=
  match s.drive.move with
  | some m => (s.tripMove m).grant
  | none => s

end Sys2Proof.Machine
end

