-- ==== Sys2Proof/Machine/LightShade.lean ====
section
/-! DEFINITION. The Light Loop and the Shade Policy (chapter 5): the active scene, the loop target, the rest level, the dimming
outputs, the bank targets and the requests they issue, and what both hand to the Pair Unit. -/

namespace Sys2Proof.Machine

/-! ## Scenes (R95, R96) -/

/-- The fields of a scene number: scene 0 is off, scenes 1 to 7 are configured. -/
def sceneOf (c : ConfigRecord) (n : Nat) : Scene := if n = 0 then Scene.off else c.scenes.getD (n - 1) Scene.off

/-- The number of the selected scene (R64); at a joined follower the lead's (R111). -/
def State.selectedScene (s : State) : Nat :=
  if s.isFollower then s.pair.mirror.scene
  else
    match s.room.occupancy with
    | .vacant | .precondition | .released => 0
    | .expected | .occupied => (s.currentRecord.map (·.scene)).getD 0
    | .overrun => s.room.overrunScene.getD 0
    | .adhoc => 1

/-- The scene number of the LIGHT_SCENE record in use: the own one, or at a joined follower the one the lead carries (R111). -/
def State.sceneOverride (s : State) : Option Nat :=
  if s.isFollower then s.pair.mirror.lightScene else (s.activeOverride .lightScene).map (·.value.toNat)

/-- The active scene's number (R96). -/
def State.activeNumber (s : State) : Nat := s.sceneOverride.getD s.selectedScene

/-- The active scene's fields (R96): an override's scene whole, or the selected one with its front level 0 in EXPECTED. -/
def State.activeScene (s : State) : Scene :=
  match s.sceneOverride with
  | some n => sceneOf s.cfg n
  | none =>
    let sc := sceneOf s.cfg s.selectedScene
    if s.room.occupancy = .expected then { sc with front := 0 } else sc

/-! ## The loop target and the rest level (R97, R100, R101) -/

/-- The preference trim of the record the node follows (R97, R111). -/
def State.preferenceTrim (s : State) : Int := ((s.followedRecord.bind (·.pref)).map (·.trim)).getD 0

/-- The light trim in use: of the own LIGHT_LEVEL record, or at a joined follower of the one the lead carries (R111). -/
def State.lightTrim (s : State) : Int :=
  if s.isFollower then s.pair.mirror.lightLevel.getD 0
  else ((s.activeOverride .lightLevel).map (·.value)).getD 0

/-- The loop target formed from a rest target (R97). -/
def State.formTarget (s : State) (rest : Nat) : Nat :=
  if rest = 0 then 0 else (clampInt 0 1000 (rest + s.preferenceTrim + s.lightTrim)).toNat

/-- The fallback level of a loop target (R101). -/
def fallbackLevel (target : Nat) : Nat := min 1000 (target * 2)

/-- The photocell cannot be believed: its fault flag is set or it has no held value (R100). -/
def State.photoUnusable (s : State) : Bool := s.evidence.photo.fault || s.evidence.photo.held.isNone

/-- The rest level at a change of the loop target (R100). -/
def State.levelAtChange (s : State) (target : Nat) : Nat :=
  if target = 0 then 0 else if s.photoUnusable then fallbackLevel target else s.light.restLevel

/-- The step ΔL of the loop: the error times the gain over 64, truncated toward zero, at most 40 either way (R100). -/
def loopStepSize (target held gain : Nat) : Int :=
  clampInt (-40) 40 (Int.tdiv (((target : Int) - held) * gain) 64)

/-- The rest level after a loop step (R100). -/
def State.levelAtStep (s : State) : Nat :=
  let l := s.light
  if l.loopTarget = 0 then 0
  else
    match s.evidence.photo.fault, s.evidence.photo.held with
    | false, some lux =>
      (clampInt 0 1000 (l.restLevel + loopStepSize l.loopTarget lux s.cfg.loopGain)).toNat
    | _, _ => fallbackLevel l.loopTarget

/-! ## The dimming outputs (R102) -/

/-- Set DIM1 and DIM2. -/
def State.setDims (s : State) (a b : Nat) : State := s.modOut fun o => { o with dim1 := a, dim2 := b }

/-- Put the front and rest levels on the outputs: 1000 each while life-safety is active, unchanged while hold is on. -/
def State.driveDims (s : State) : State :=
  if s.lifeSafetyActive then s.setDims 1000 1000
  else if s.overrides.hold then s
  else s.setDims s.light.front s.light.restLevel

/-- A loop step (R100, R103): skipped while life-safety is active. -/
def State.loopStep (s : State) : State :=
  if s.lifeSafetyActive then s
  else (s.modLight fun l => { l with restLevel := s.levelAtStep }).driveDims

/-- Take the fields of the active scene into use; the front level is set at once (R96, R99). -/
def State.useActiveScene (s : State) : State :=
  s.modLight fun l =>
    { l with
      scene := s.activeNumber
      front := s.activeScene.front
      rest := s.activeScene.rest
      policy := s.activeScene.policy }

/-- Form the loop target afresh; a change of it acts on the rest level (R97, R100). -/
def State.useLoopTarget (s : State) : State :=
  let target := s.formTarget s.light.rest
  if target = s.light.loopTarget then s
  else s.modLight fun l => { l with loopTarget := target, restLevel := s.levelAtChange target }

/-- The active scene and the loop target are set afresh and the outputs follow (R96, R97, R102). -/
def State.relight (s : State) : State := s.useActiveScene.useLoopTarget.driveDims

/-! ## Bank targets (R107 to R111) -/

/-- The effective blind policy (R107, R111). -/
def State.effectivePolicy (s : State) : BlindPolicy :=
  if s.isFollower then s.pair.mirror.policy
  else
    match s.currentRecord.bind (·.pref) with
    | some ⟨_, .openUp⟩ => .openUp
    | some ⟨_, .project⟩ => .project
    | _ => s.light.policy

/-- The glare flag used for bank targets (R104, R111). -/
def State.glareInUse (s : State) : Bool := if s.isFollower then s.pair.mirror.glare else s.shade.glare

/-- The policy type is occupied-type (R65). -/
def Occupancy.occupiedType : Occupancy → Bool
  | .vacant | .released => false
  | _ => true

/-- A bank's target by glare alone: its glare position, or 0. -/
def glareTarget (glare : Bool) (b : BankConfig) : Target := if glare then ⟨b.glarePos, .glare⟩ else ⟨0, .scene⟩

/-- A bank's target in an occupied-type state (R108). -/
def occupiedTarget (policy : BlindPolicy) (glare : Bool) (b : BankConfig) : Target :=
  match policy with
  | .followGlare => glareTarget glare b
  | .project => if b.screenSide then ⟨100, .scene⟩ else glareTarget glare b
  | .openUp => ⟨0, .scene⟩

/-- A bank's target by the policy type (R108, R109). -/
def State.policyTarget (s : State) (b : Bank) : Option Target :=
  let c := s.cfg.banks.get b
  if s.room.occupancy.occupiedType then some (occupiedTarget s.effectivePolicy s.glareInUse c)
  else if s.glareInUse then some ⟨c.glarePos, .glare⟩
  else none

/-- A bank's target (R110): life-safety first, then a BLINDS record, then the policy. -/
def State.bankTarget (s : State) (b : Bank) : Option Target :=
  if s.lifeSafetyActive then some ⟨0, .safety⟩
  else
    match s.overrides.records.get .blinds with
    | some r => some ⟨r.value.toNat, .override⟩
    | none => s.policyTarget b

/-! ## Requests to the Blind Drive (R113) -/

/-- Set a bank's held target. -/
def State.setHeld (s : State) (b : Bank) (t : Option Target) : State :=
  s.modShade fun p => { p with held := p.held.set b t }

/-- Compare one bank's new target with the held one and request it if it is another position or origin. -/
def State.decideBank (s : State) (b : Bank) (t : Option Target) : State :=
  match t with
  | none => s.setHeld b none
  | some x => if s.shade.held.get b = some x then s else (s.setHeld b (some x)).requestBank b x

/-- The targets of every bank are decided afresh, from the state as it stands at the decision; requests go out in the order
1, 2, 3. -/
def State.decideTargets (s : State) : State := Bank.all.foldl (fun s' b => s'.decideBank b (s.bankTarget b)) s

/-- Request a bank's held target again. -/
def State.reissueBank (s : State) (b : Bank) : State :=
  match s.shade.held.get b with
  | some t => s.requestBank b t
  | none => s

/-- A request for each bank whose held target is a position, in bank order. -/
def State.reissue (s : State) : State := Bank.all.foldl State.reissueBank s

/-! ## What is handed to the Pair Unit (R112, R139) -/

/-- The light and shade values a lead's PAIR_STATE carries. -/
def State.carriedValues (s : State) : Handed :=
  { scene := s.selectedScene
    lightScene := (s.activeOverride .lightScene).map (·.value.toNat)
    lightLevel := (s.activeOverride .lightLevel).map (·.value)
    policy := s.effectivePolicy
    glare := s.shade.glare }

/-- Hand the Pair Unit the values that changed; at a lead a change queues PAIR_STATE. -/
def State.handCarried (s : State) : State :=
  if s.carriedValues = s.pair.handed then s
  else
    let s' := s.modPair fun p => { p with handed := s.carriedValues }
    if s'.isLead then s'.queueReport .pairState else s'

/-- The bank targets are decided afresh and the changed values handed on. -/
def State.reshade (s : State) : State := s.decideTargets.handCarried

/-- Lights and blinds are both decided afresh. -/
def State.relightAndShade (s : State) : State := s.relight.reshade

end Sys2Proof.Machine
end

