-- ==== Sys2Proof/Machine/AirShare.lean ====
section
/-! DEFINITION. The Air Share Engine (chapter 4): the own demand record, the view, the share, the grant, pinch, the damper, and
when DEMAND is queued. -/

namespace Sys2Proof.Machine

/-! ## The own demand record (R72 to R78) -/

/-- The Peer Table record of a station. -/
def State.peerOf (s : State) (address : Nat) : Option Peer := s.peers.find? (fun p => p.address = address)

/-- The partner's M_max (R74): the one held in the partner's record, or else the own M_max. -/
def State.partnerMax (s : State) : Nat := ((s.peerOf s.cfg.partner).bind (·.pairPart)).getD s.cfg.mMax

/-- The leaf share of a count of people (R74, R75). -/
def State.leafShare (s : State) (n : Nat) : Nat := n * s.cfg.mMax / (s.cfg.mMax + s.partnerMax)

/-- The expected attendance n_exp (R75). -/
def State.expectedCount (s : State) : Nat :=
  match s.followedRecord with
  | none => 0
  | some r => if r.scope = .joined ∧ s.isJoined then s.leafShare r.expected else r.expected

/-- The base count (R74). -/
def State.baseCount (s : State) : Nat := if s.isJoined then s.leafShare s.pair.combined else s.evidence.headcount

/-- The effective occupant count n_eff (R74). -/
def State.effectiveCount (s : State) : Nat :=
  if s.doorFault then
    match s.room.occupancy with
    | .occupied => max s.baseCount s.expectedCount
    | .overrun | .adhoc => max s.baseCount 1
    | _ => s.baseCount
  else s.baseCount

/-- The CO2 trim (R76). -/
def State.co2Trim (s : State) : Nat :=
  match s.evidence.co2Fault, s.evidence.co2 with
  | false, some ppm => (ppm - s.cfg.co2Setpoint) * s.cfg.co2Gain / 100
  | _, _ => 0

/-- F_vac as the engine takes it from the record, within M_max throughout the run (R70; assumption log, entry 16). -/
def State.vacantFloor (s : State) : Nat := min s.cfg.mMax s.cfg.vacFloor

/-- I as the engine takes it from the record, within M_max throughout the run (R70; assumption log, entry 16). -/
def State.isolatedCeiling (s : State) : Nat := min s.cfg.mMax s.cfg.isolated

/-- The demand before adjustment, from the row of the occupancy state (R73). -/
def State.rowDemand (s : State) : Nat :=
  let c := s.cfg
  match s.room.occupancy with
  | .vacant | .released => s.vacantFloor
  | .precondition => c.areaRate + c.personRate * (s.expectedCount / 2)
  | .expected => c.areaRate + c.personRate * s.expectedCount
  | .occupied | .overrun | .adhoc => c.areaRate + c.personRate * s.effectiveCount + s.co2Trim

/-- The air class that the occupancy state selects (R63). -/
def Occupancy.airClass : Occupancy → Nat
  | .occupied | .overrun | .adhoc => 3
  | .precondition | .expected => 2
  | .vacant | .released => 1

/-- The own demand record (R69): demand, floor, class. -/
structure OwnRecord where
  demand : Nat
  floor : Nat
  airClass : Nat
  deriving DecidableEq, Repr

/-- The own class outside life-safety (R72). -/
def State.ownClass (s : State) : Nat :=
  if (s.overrides.records.get .airBoost).isSome then 3 else s.room.occupancy.airClass

/-- The row value after HOLD_VACANT and AIR_BOOST (R77), before the clamp. -/
def State.adjustedDemand (s : State) : Nat :=
  let base := if (s.overrides.records.get .holdVacant).isSome then s.vacantFloor else s.rowDemand
  base + ((s.overrides.records.get .airBoost).map (·.value.toNat)).getD 0

/-- The own demand record from the inputs as they stand (R72 to R78). -/
def State.ownRecord (s : State) : OwnRecord :=
  if s.lifeSafetyActive then ⟨0, 0, 0⟩
  else ⟨max s.vacantFloor (min s.cfg.mMax s.adjustedDemand), s.vacantFloor, s.ownClass⟩

/-! ## The view and the share (R81 to R86) -/

/-- A demand part belongs in the view (R81): own riser, class 1, 2 or 3, age at most 3 × T_d. -/
def State.inView (s : State) (p : DemandPart) : Bool :=
  p.riser = s.cfg.riser && 1 ≤ p.airClass && p.airClass ≤ 3 && s.ageOf p.writtenAt ≤ 3 * s.cfg.demandPeriod

/-- The peers of the view (R81). -/
def State.viewPeers (s : State) : List Peer :=
  s.peers.filter (fun p => p.demandPart.any s.inView)

/-- The demand parts of the view. -/
def State.viewParts (s : State) : List DemandPart := s.viewPeers.filterMap (·.demandPart)

/-- The extra of an entry (R81). -/
def extraOf (demand floor : Nat) : Nat := demand - floor

/-- The sum of the floors of the view, the own entry included (R83). -/
def State.sumFloors (s : State) : Nat := s.air.floor + (s.viewParts.map (·.floor)).sum

/-- X_c: the sum of the extras of the view entries of a class, the own entry included (R84). -/
def State.classExtra (s : State) (c : Nat) : Nat :=
  (if s.air.airClass = c then extraOf s.air.demand s.air.floor else 0) +
    ((s.viewParts.filter (fun p => p.airClass = c)).map (fun p => extraOf p.demand p.floor)).sum

/-- What an entry of extra `e` receives of a remainder `r` in a class whose extras sum to `x` (R84). -/
def extraShare (e r x : Nat) : Nat := if x ≤ r then e else e * r / x

/-- What is left of a remainder after a class whose extras sum to `x` (R84): nothing once the class exhausts it. -/
def afterClass (r x : Nat) : Nat := r - x

/-- The remainder that reaches the own class (R84). -/
def State.remainderAt (s : State) (c : Nat) (r : Nat) : Nat :=
  if c = 3 then r
  else if c = 2 then afterClass r (s.classExtra 3)
  else afterClass (afterClass r (s.classExtra 3)) (s.classExtra 2)

/-- The own grant with capacity known and the own class 1, 2 or 3 (R83 to R85). -/
def State.shareGrant (s : State) : Nat :=
  let a := s.air
  if s.sumFloors ≥ a.capacity then a.floor * a.capacity / s.sumFloors
  else
    a.floor + extraShare (extraOf a.demand a.floor) (s.remainderAt a.airClass (a.capacity - s.sumFloors))
      (s.classExtra a.airClass)

/-- The own grant (R83 to R86). -/
def State.grantValue (s : State) : Nat :=
  if s.air.airClass = 0 then 0
  else if s.air.capacityKnown then s.shareGrant
  else min s.air.demand s.isolatedCeiling

/-! ## Pinch (R90, R91) -/

/-- The pinch timer at a recomputation: started when an episode begins, left running through it, stopped (or left expired) at
its end. -/
def pinchTimerAfter (timer : PinchTimer) (inEpisode pinched : Bool) (now : Nat) : PinchTimer :=
  match inEpisode, pinched with
  | false, true => .running (now + mins 5)
  | true, true => timer
  | true, false => match timer with
    | .expired => .expired
    | _ => .stopped
  | false, false => timer

/-- The pinch flag is evaluated and the pinch timer handled (R90, R91). -/
def State.evaluatePinch (s : State) : State :=
  s.modAir fun a =>
    { a with
      pinch := a.grant < a.demand
      episode := a.grant < a.demand && a.airClass = 3
      pinchTimer := pinchTimerAfter a.pinchTimer a.episode (a.grant < a.demand && a.airClass = 3) s.now }

/-! ## The damper (R88, R89) -/

/-- The opening that a grant gives (R88). -/
def openingOf (grant mMax : Nat) : Nat := min 1000 (grant * 1000 / mMax)

/-- Set the damper output. -/
def State.setDamper (s : State) (x : Nat) : State := s.modOut fun o => { o with dmp := x }

/-- Set the damper to the computed opening, unless hold is on or life-safety is active (R88, R89). -/
def State.driveDamper (s : State) : State :=
  if s.lifeSafetyActive || s.overrides.hold then s else s.setDamper (openingOf s.air.grant s.cfg.mMax)

/-- Set the damper as life-safety commands, hold or not (R89). -/
def State.safetyDamper (s : State) : State :=
  match s.overrides.lifeSafety with
  | .off => s
  | .evacuate => s.setDamper 0
  | .smokeHold p => s.setDamper (min 1000 p)

/-! ## Recomputation and evaluation (R71, R87, R94) -/

/-- The grant is recomputed (R87): the view, the grant, pinch, the damper. -/
def State.recompute (s : State) : State :=
  let s1 := s.modAir fun a =>
    { a with
      view := if a.airClass = 0 then [] else s.viewPeers.map (·.address)
      grant := s.grantValue }
  s1.evaluatePinch.driveDamper

/-- Hold a new own record. -/
def State.holdRecord (s : State) (r : OwnRecord) : State :=
  s.modAir fun a => { a with demand := r.demand, floor := r.floor, airClass := r.airClass }

/-- A new own record is to be published at once (R94), against the one held before. -/
def State.publishAtOnce (s : State) (r : OwnRecord) : Bool :=
  r.airClass ≠ s.air.airClass ||
    (r.demand ≠ s.air.demand &&
      (match s.air.lastPublished with
      | none => true
      | some p => max (p / 10) 20 ≤ distance r.demand p))

/-- The own record as the engine holds it. -/
def State.heldRecord (s : State) : OwnRecord := ⟨s.air.demand, s.air.floor, s.air.airClass⟩

/-- The own record is evaluated afresh (R71): if it differs it is held, the grant is recomputed, and DEMAND is queued by R94. -/
def State.evaluate (s : State) : State :=
  let r := s.ownRecord
  if r = s.heldRecord then s
  else
    let s' := (s.holdRecord r).recompute
    if s.publishAtOnce r then s'.queueReport .demand else s'

/-- The evaluation and recomputation of a start of running (R69, R87). -/
def State.evaluateAtStart (s : State) : State := (s.holdRecord s.ownRecord).recompute

end Sys2Proof.Machine
end

