-- ==== Sys2Proof/Machine/OverrideTable.lean ====
section
/-! DEFINITION. The Override Table (sections 8.1 to 8.4): handing a record's change to its reader, removals, staleness, expiry,
and the acceptance of requests. -/

namespace Sys2Proof.Machine

/-! ## Records -/

/-- A change of a quantity's record is handed to its reader (R148). -/
def State.handToReader (s : State) (q : Quantity) : State :=
  match q with
  | .lightScene => s.relightAndShade
  | .lightLevel => s.relight.handCarried
  | .blinds => s.reshade
  | .airBoost => s.evaluate
  | .holdVacant => s.evaluate

/-- Replace a quantity's record without handing it on. -/
def State.putRecord (s : State) (q : Quantity) (r : Option OverrideRecord) : State :=
  s.modOverrides fun o => { o with records := o.records.set q r }

/-- Place or replace a record, and hand the change on. -/
def State.placeRecord (s : State) (q : Quantity) (r : OverrideRecord) : State := (s.putRecord q (some r)).handToReader q

/-- Remove a quantity's record, if held, and hand the removal on. -/
def State.removeRecord (s : State) (q : Quantity) : State :=
  if (s.overrides.records.get q).isSome then (s.putRecord q none).handToReader q else s

/-- Remove a quantity's record if it is of the wanted sort. -/
def State.removeRecordIf (s : State) (p : OverrideRecord → Bool) (q : Quantity) : State :=
  if (s.overrides.records.get q).any p then s.removeRecord q else s

/-- Remove every record of the wanted sort, each handed to its reader as it goes, in the order of the quantities' codes
(assumption log, entry 29). -/
def State.removeWhere (s : State) (p : OverrideRecord → Bool) : State :=
  Quantity.all.foldl (fun s' q => s'.removeRecordIf p q) s

/-- Change every held record without handing anything on. -/
def PerQuantity.mapHeld (v : PerQuantity (Option OverrideRecord)) (f : OverrideRecord → OverrideRecord) :
    PerQuantity (Option OverrideRecord) :=
  ⟨v.lightScene.map f, v.lightLevel.map f, v.blinds.map f, v.airBoost.map f, v.holdVacant.map f⟩

/-! ## Staleness (R153) -/

/-- A record after a session switch: at level 3 and not yet stale, it is marked stale and its 15-minute timer started. -/
def markStaleRecord (now : Nat) (r : OverrideRecord) : OverrideRecord :=
  if r.level = 3 ∧ r.stale = none then { r with stale := some (now + mins 15) } else r

/-- A session switch marks the level-3 records stale; nothing is handed on. -/
def State.markStale (s : State) : State :=
  s.modOverrides fun o => { o with records := o.records.mapHeld (markStaleRecord s.now) }

/-- Every stale record is removed. -/
def State.removeStale (s : State) : State := s.removeWhere (fun r => r.stale.isSome)

/-! ## Expiry (R152) -/

/-- An expiry held within the wing minutes. -/
def capMinute (m : Nat) : Nat := min maxMinute m

/-- The expiry of a record accepted now (R152). -/
def State.expiryFor (s : State) (level duration : Nat) : Option Nat :=
  if level = 3 then
    match s.followedRecord with
    | some r => some (capMinute r.finish)
    | none => some (capMinute (s.clock.minute + 120))
  else if duration = 0 then none
  else some (capMinute (s.clock.minute + duration))

/-- A record's expiry is at or before the wing minute. -/
def State.hasExpired (s : State) (r : OverrideRecord) : Bool := r.expiry.any (fun m => m ≤ s.clock.minute)

/-- Every record whose expiry is at or before now is removed. -/
def State.expireRecords (s : State) : State := s.removeWhere s.hasExpired

/-- An update of the running session moves the expiry of the level-3 records that ended with it (R152). -/
def moveExpiry (oldEnd newEnd : Nat) (r : OverrideRecord) : OverrideRecord :=
  if r.level = 3 ∧ r.expiry = some oldEnd then { r with expiry := some newEnd } else r

/-! ## Requests (R149 to R151) -/

/-- A request to the table: placing, or clearing where `clear` is set. `fromPanel` says that it comes from the panel, directly
or forwarded. -/
structure Request where
  quantity : Quantity
  level : Nat
  cls : Nat
  source : Nat
  fromPanel : Bool
  value : Int
  clear : Bool
  duration : Nat
  deriving DecidableEq, Repr

/-- Tests 1 and 2 of R150, for a request from the panel. -/
def State.panelTests (s : State) : Option RefusalReason :=
  if s.lifeSafetyActive then some .safety else if s.overrides.hold then some .held else none

/-- The first test of R150 that fails, with its reason. -/
def State.testRequest (s : State) (r : Request) : Option RefusalReason :=
  if s.lifeSafetyActive then some .safety
  else if r.fromPanel ∧ s.overrides.hold then some .held
  else if r.level < r.cls then some .privilege
  else if r.quantity = .holdVacant ∧ r.level > 1 then some .privilege
  else
    match s.overrides.records.get r.quantity with
    | some h => if h.stale = none ∧ h.level < r.level then some .outranked else none
    | none => none

/-- The record of an accepted request (R149, R150): a requested level 0 is held at level 1. -/
def State.recordFor (s : State) (r : Request) : OverrideRecord :=
  { level := max 1 r.level
    source := r.source
    value := r.value
    expiry := s.expiryFor (max 1 r.level) r.duration
    stale := none }

/-- Take a request whole (R150, R151): a refusal latches OVERRIDE_REFUSED. -/
def State.takeRequest (s : State) (r : Request) : State :=
  match s.testRequest r with
  | some reason => s.latchEvent (.overrideRefused r.source (.quantity r.quantity) reason)
  | none => if r.clear then s.removeRecord r.quantity else s.placeRecord r.quantity (s.recordFor r)

/-- The value of a placed record kept in its quantity's range (R149); HOLD_VACANT's is not used. R149 names the BLINDS values above
100 and the AIR_BOOST values above 2000; one below 0 is clamped to 0 (DEDUCED: assumption log, entry 17). -/
def clampValue : Quantity → Int → Int
  | .lightScene, v => v
  | .lightLevel, v => clampInt (-1000) 1000 v
  | .blinds, v => clampInt 0 100 v
  | .airBoost, v => clampInt 0 2000 v
  | .holdVacant, _ => 0

/-- A panel request at level 3 with sender class 3 (R155), from this panel (source 0) or forwarded (R143). -/
def panelRequest (source : Nat) (q : Quantity) (v : Int) : Request :=
  { quantity := q, level := 3, cls := 3, source := source, fromPanel := true, value := v, clear := false, duration := 0 }

/-- The LIGHT_LEVEL value a trim key asks for (R155): the held value plus the step, or the step; clamped. -/
def State.trimmedLevel (s : State) (step : Int) : Int :=
  clampInt (-1000) 1000 (((s.overrides.records.get .lightLevel).map (·.value)).getD 0 + step)

/-- The room of an OVERRIDE frame is this node's (R149). -/
def State.overrideRoom (s : State) (room : Nat) : Bool :=
  room = s.cfg.room || (s.cfg.partner ≠ 0 && room = s.cfg.pairRoom)

/-- The request of an OVERRIDE frame (R149): none when the frame is ignored. The value of a CLEAR is not used. -/
def State.overrideRequest (s : State) (source cls : Nat) (f : OverrideFields) : Option Request :=
  if !s.overrideRoom f.room then none
  else
    match Quantity.ofCode f.quantity with
    | none => none
    | some q =>
      if q = .lightScene ∧ (f.value < 0 ∨ 7 < f.value) ∧ f.clear = false then none
      else if f.level > 3 then none
      else
        some
          { quantity := q
            level := f.level
            cls := cls
            source := source
            fromPanel := false
            value := clampValue q f.value
            clear := f.clear
            duration := min 1440 f.duration }

end Sys2Proof.Machine
end

