-- ==== Sys2Proof/Machine/RoomState.lean ====
section
/-! DEFINITION. The Room State Machine (chapter 3) with the vacancy of the Evidence Unit that it ends in (R34 to R36): what each
input does in each state, retirement, state derivation, and the hand-off at the end of a handling. -/

namespace Sys2Proof.Machine

/-! ## Compare points of a record (R10) -/

/-- The wing minute of a compare point. -/
def Session.minuteOf (r : Session) : Point → Nat
  | .pointA => r.start - r.lead
  | .pointB => r.start
  | .pointG => r.start + r.grace
  | .pointE => r.finish

/-- The taken mark of a compare point. -/
def Session.taken (r : Session) : Point → Bool
  | .pointA => r.takenA
  | .pointB => r.takenB
  | .pointG => r.takenG
  | .pointE => r.takenE

/-- A record with one point marked taken. -/
def Session.mark (r : Session) : Point → Session
  | .pointA => { r with takenA := true }
  | .pointB => { r with takenB := true }
  | .pointG => { r with takenG := true }
  | .pointE => { r with takenE := true }

/-- A record whose points at or before now are marked taken, the others as they stand (R13). -/
def Session.markPassed (now : Nat) (r : Session) : Session :=
  { r with
    takenA := r.takenA || r.minuteOf .pointA ≤ now
    takenB := r.takenB || r.minuteOf .pointB ≤ now
    takenG := r.takenG || r.minuteOf .pointG ≤ now
    takenE := r.takenE || r.minuteOf .pointE ≤ now }

/-- A record with its marks set afresh (step 2 of R5): taken exactly if at or before now, but for a point the record has not. -/
def Session.markAfresh (now : Nat) (r : Session) : Session :=
  { r with
    takenA := r.lead = 0 || r.minuteOf .pointA ≤ now
    takenB := r.minuteOf .pointB ≤ now
    takenG := r.kind = .exam || r.minuteOf .pointG ≤ now
    takenE := r.minuteOf .pointE ≤ now }

/-- Change the records of the Session Table. -/
def State.modRecords (s : State) (f : List Session → List Session) : State :=
  s.modSessions fun t => { t with records := f t.records }

/-- Change the record with a session id. -/
def State.modRecordOf (s : State) (id : Nat) (f : Session → Session) : State :=
  s.modRecords (·.map fun r => if r.id = id then f r else r)

/-- Remove the record with a session id. -/
def State.removeSession (s : State) (id : Nat) : State := s.modRecords (·.filter (fun r => r.id ≠ id))

/-! ## Small changes of the machine -/

/-- Set the occupancy state. -/
def State.setOccupancy (s : State) (o : Occupancy) : State := s.modRoom fun r => { r with occupancy := o }

/-- Clear the overrun record and stop the overrun timer. -/
def State.clearOverrun (s : State) : State := s.modRoom fun r => { r with overrunScene := none, overrunDue := none }

/-- Make a record current in a state (R46); an overrun ends with it (R57). -/
def State.follow (s : State) (id : Nat) (o : Occupancy) : State :=
  s.modRoom fun r => { r with current := some id, occupancy := o, overrunScene := none, overrunDue := none }

/-- Release the current mark. -/
def State.releaseMark (s : State) : State := s.modRoom fun r => { r with current := none }

/-- Raise the session-switch marker (R61). -/
def State.raiseSwitch (s : State) : State := s.modRoom fun r => { r with switchMarker := true }

/-- OCCUPIED if evidence is fresh, another state otherwise. -/
def State.occupiedOr (s : State) (o : Occupancy) : Occupancy := if s.fresh then .occupied else o

/-- The current record is begun (R44). -/
def State.currentBegun (s : State) : Bool := s.currentRecord.any (·.takenB)

/-! ## The hand-off (R61, R66) -/

/-- The values a handling compares: the occupancy state and the current session id. -/
def State.observed (s : State) : Occupancy × Option Nat := (s.room.occupancy, s.sessionId)

/-- One session switch is handed to the Override Table if the marker is raised, and the marker cleared (R61). -/
def State.handSwitch (s : State) : State :=
  if s.room.switchMarker then s.markStale.modRoom fun r => { r with switchMarker := false } else s

/-- In VACANT and RELEASED the hand-off removes every stale record (R153). -/
def State.dropStaleIfEmpty (s : State) : State :=
  match s.room.occupancy with
  | .vacant | .released => s.removeStale
  | _ => s

/-- The end of a handling (R61, R66): the switch first, then, where the state or the session id differs from before, every
reader recomputes, a lead queues PAIR_STATE (R139), and a changed state queues ROOM_STATUS (R180). R66 gives the readers no order; the
air, the lights and the blinds take the state before the stale records go (DESIGN CHOICE: assumption log, entry 34). -/
def State.handOff (s : State) (before : Occupancy × Option Nat) : State :=
  let s0 := s.handSwitch
  if s0.observed = before then s0
  else
    let s1 := s0.evaluate.relightAndShade.dropStaleIfEmpty
    let s2 := if s1.isLead then s1.queueReport .pairState else s1
    if s2.room.occupancy = before.1 then s2 else s2.queueReport .roomStatus

/-- One handling (R43), without the end of suppression. -/
def State.handle (s : State) (core : State → State) : State := (core s).handOff s.observed

/-! ## Vacancy (R35, R54) -/

/-- A declaration of vacancy at the Room State Machine (R54); a follower takes no action on it. -/
def State.roomVacancy (s : State) : State :=
  if s.isFollower then s
  else
    match s.room.occupancy with
    | .occupied =>
      if s.currentBegun then
        (s.setOccupancy .released).latchEvent (.release (s.room.current.getD 0) .earlyLeave)
      else s.setOccupancy .precondition
    | .overrun => s.clearOverrun.setOccupancy .vacant
    | .adhoc => s.setOccupancy .vacant
    | _ => s

/-- The combined headcount formed afresh at a lead, saturating at 511 (R129). -/
def State.formCombined (s : State) : State :=
  s.modPair fun p => { p with combined := min 511 (s.evidence.headcount + p.followerCount) }

/-- A change of the own headcount is handed on (R29): to the Pair Unit, where a lead forms n_comb and a follower queues
PAIR_STATE (R140), and to the Air Share Engine. -/
def State.headcountChanged (s : State) : State :=
  let s1 := if s.isLead then s.formCombined else s
  let s2 := s1.evaluate
  if s2.isFollower then s2.queueReport .pairState else s2

/-- Set the headcount, handing a change on. -/
def State.setHeadcount (s : State) (n : Nat) : State :=
  if n = s.evidence.headcount then s else (s.modEvidence fun e => { e with headcount := n }).headcountChanged

/-- Clear the evidence history; quiet timing stops (R35). -/
def State.clearHistory (s : State) : State :=
  s.modEvidence fun e => { e with lastEvidence := none, confirmMark := none, holdPassed := false, triplePassed := false }

/-- A declaration of vacancy (R35). -/
def State.declareVacancy (s : State) : State := ((s.setHeadcount 0).clearHistory).handle State.roomVacancy

/-! ## Suppression during an examination (R36, R55) -/

/-- The EXAM record whose occupied room suppresses vacancy. -/
def State.suppressedBy (s : State) : Option Nat :=
  match s.currentRecord with
  | some r => if r.kind = .exam ∧ s.room.occupancy = .occupied then some r.id else none
  | none => none

/-- The test made when suppression ends, against the quiet time as it stands (R36). -/
def State.deferredTest (s : State) : State :=
  match s.evidence.lastEvidence with
  | none => s
  | some t =>
    if 3 * s.holdMs ≤ s.now - t then s.declareVacancy
    else if s.holdMs ≤ s.now - t ∧ s.testedHeadcount = 0 then s.declareVacancy
    else s

/-- One handling (R43, R55): its core, the hand-off, and the deferred test where it ended suppression. -/
def State.handling (s : State) (core : State → State) : State :=
  let s' := s.handle core
  if s.suppressedBy ≠ none ∧ s'.suppressedBy ≠ s.suppressedBy then s'.deferredTest else s'

/-! ## Evidence (R53) -/

/-- An evidence event at the Room State Machine; a follower takes no action on it (R67). -/
def State.roomEvidence (s : State) (confirming : Bool) : State :=
  if s.isFollower then s
  else
    match s.room.occupancy with
    | .vacant => if confirming then (s.setOccupancy .adhoc).latchEvent (.adhoc s.testedHeadcount) else s
    | .precondition | .expected | .released => s.setOccupancy .occupied
    | .occupied | .overrun | .adhoc => s

/-- The overrun timer expires (R57): the room becomes ADHOC, with its event. -/
def State.overrunExpired (s : State) : State :=
  s.handling fun x => (x.clearOverrun.setOccupancy .adhoc).latchEvent (.adhoc x.testedHeadcount)

/-! ## Retirement (R51, R52, R56) -/

/-- The four cases of a retirement's successor. -/
inductive Successor where
  | begun (id : Nat)
  | upcoming (id : Nat)
  | overrun
  | vacant
  deriving DecidableEq, Repr

/-- The successor chosen once the retired record has left the table (R51). -/
def State.successor (s : State) : Successor :=
  match s.nextRecord with
  | some r =>
    if r.minuteOf .pointB ≤ s.clock.minute then .begun r.id
    else if r.minuteOf .pointA ≤ s.clock.minute then .upcoming r.id
    else if s.fresh then .overrun else .vacant
  | none => if s.fresh then .overrun else .vacant

/-- Enter OVERRUN after a record (R56). -/
def State.enterOverrun (s : State) (r : Session) : State :=
  (s.modRoom fun m =>
    { m with
      occupancy := .overrun
      overrunScene := some r.scene
      overrunDue := some (s.now + mins s.cfg.overrunLimit) }).latchEvent (.overrun r.id)

/-- Step 2 of R51: what the successor makes of the room. -/
def State.succeed (s : State) (r : Session) (c : Successor) : State :=
  match c with
  | .begun id => (s.follow id (s.occupiedOr .expected)).latchEvent (.sessionBegin id)
  | .upcoming id => s.follow id (s.occupiedOr .precondition)
  | .overrun => s.enterOverrun r
  | .vacant => s.setOccupancy .vacant

/-- Step 5 of R51: the new current record's points at or before now are marked taken without delivery (R13). -/
def State.markCurrentPassed (s : State) : State :=
  match s.room.current with
  | some id => s.modRecordOf id (Session.markPassed s.clock.minute)
  | none => s

/-- A retirement of the current record (R51). `atEnd` says that its E was taken or its end updated to the past, so that an
overrun is reported (R52). -/
def State.retire (s : State) (atEnd : Bool) : State :=
  match s.currentRecord with
  | none => s
  | some r =>
    let s1 := (s.removeSession r.id).releaseMark
    let c := s1.successor
    let s2 := (s1.succeed r c).latchEvent (.sessionEnd r.id (atEnd && c = .overrun))
    s2.raiseSwitch.markCurrentPassed

/-! ## Compare points delivered (R47 to R50, R14) -/

/-- The A of a record that is not current (R47). -/
def State.deliverA (s : State) (id : Nat) : State :=
  if s.isFollower || s.room.current = some id then s
  else
    match s.room.occupancy with
    | .vacant | .adhoc | .overrun => s.follow id (s.occupiedOr .precondition)
    | .released => s.retire false
    | .precondition | .expected | .occupied => s

/-- A session begins: SESSION_BEGIN and a session switch (R48, R49). -/
def State.beginSession (s : State) (id : Nat) : State := (s.latchEvent (.sessionBegin id)).raiseSwitch

/-- The B of the current record (R49), or of one that is not current, as its A and B together (R48). -/
def State.deliverB (s : State) (id : Nat) : State :=
  if s.isFollower then s
  else if s.room.current = some id then
    if s.room.occupancy = .precondition then (s.setOccupancy .expected).beginSession id else s.beginSession id
  else
    match s.room.occupancy with
    | .vacant | .adhoc | .overrun =>
      ((s.modRecordOf id (·.mark .pointA)).follow id (s.occupiedOr .expected)).beginSession id
    | _ => s

/-- The G of the current record (R50). -/
def State.deliverG (s : State) (id : Nat) : State :=
  if s.room.current = some id ∧ s.room.occupancy = .expected then
    (s.setOccupancy .released).latchEvent (.release id .noShow)
  else s

/-- The E of the current record retires it; that of another removes it without event (R14). -/
def State.deliverE (s : State) (id : Nat) : State :=
  if s.room.current = some id then s.retire true else s.removeSession id

/-- A compare point delivered. -/
def State.deliverCore (s : State) (p : Point) (id : Nat) : State :=
  match p with
  | .pointA => s.deliverA id
  | .pointB => s.deliverB id
  | .pointG => s.deliverG id
  | .pointE => s.deliverE id

/-- Take a point: its mark is set, and its delivery is one handling (R11, R43). -/
def State.deliver (s : State) (p : Point) (id : Nat) : State :=
  (s.modRecordOf id (·.mark p)).handling (fun s' => s'.deliverCore p id)

/-! ## State derivation (R59) -/

/-- The state derived for the earliest record once its A has been reached. -/
def State.derivedFor (s : State) (r : Session) : Occupancy :=
  if r.minuteOf .pointB ≤ s.clock.minute then
    s.occupiedOr (if r.minuteOf .pointG ≤ s.clock.minute ∧ r.kind ≠ .exam then .released else .expected)
  else s.occupiedOr .precondition

/-- State derivation. It latches no event and raises no switch. -/
def State.derive (s : State) : State :=
  let s1 := s.releaseMark.clearOverrun
  let noRecord := s1.setOccupancy (if s1.fresh then .adhoc else .vacant)
  if !s1.clock.timeValid then noRecord
  else
    match s1.sessions.records.head? with
    | none => noRecord
    | some r => if s1.clock.minute < r.minuteOf .pointA then noRecord else s1.follow r.id (s1.derivedFor r)

/-- The records' marks set afresh (step 2 of R5). -/
def State.markAllAfresh (s : State) : State := s.modRecords (·.map (Session.markAfresh s.clock.minute))

/-- The records whose end is at or before now leave the table without event (R5, R8). -/
def State.dropEnded (s : State) : State := s.modRecords (·.filter (fun r => s.clock.minute < r.finish))

end Sys2Proof.Machine
end

