-- ==== Sys2Proof/Machine/SessionTable.lean ====
section
/-! DEFINITION. The Wing Clock and the Session Table (chapter 1): arming, taking and delivering compare points, the steps of the
clock, the merge of an entry, cancellation, and the timetable transfer. -/

namespace Sys2Proof.Machine

/-! ## Arming and taking compare points (R9 to R14) -/

/-- A point of a held record is untaken and at or before now. -/
def State.isLate (s : State) (p : Point) (id : Nat) : Bool :=
  (s.recordOf id).any (fun r => !r.taken p && r.minuteOf p ≤ s.clock.minute)

/-- Deliver a point if it is late, and then do what follows a delivery. -/
def State.lateDeliver (s : State) (p : Point) (id : Nat) (after : State → State) : State :=
  if s.isLate p id then after (s.deliver p id) else s

/-- The late A and B of a record are delivered: together, as one handling, where both are late and no record is current (R48;
assumption log, entry 7), and otherwise the one that is late. -/
def State.lateDeliverAB (s : State) (id : Nat) (after : State → State) : State :=
  if s.room.current = none ∧ s.isLate .pointA id ∧ s.isLate .pointB id then
    after ((s.modRecordOf id (·.mark .pointA)).deliver .pointB id)
  else (s.lateDeliver .pointA id after).lateDeliver .pointB id after

/-- A record that is armed as next has its late points delivered at once, in the order A, B, G (R12). A delivery may make
another record next, which is armed in turn: one level of depth for each record there can be. -/
def armLevels : Nat → State → State
  | 0, s => s
  | n + 1, s =>
    if !s.clock.timeValid then s
    else
      match s.nextRecord with
      | none => s
      | some r => (s.lateDeliverAB r.id (armLevels n)).lateDeliver .pointG r.id (armLevels n)

/-- The next record is armed (R12). -/
def State.armNext (s : State) : State := armLevels 17 s

/-- The armed records (R9): the current one and the next one. -/
def State.armed (s : State) : List Session := s.currentRecord.toList ++ s.nextRecord.toList

/-- The first armed record whose point is untaken and falls at this minute. -/
def State.dueRecord (s : State) (p : Point) : Option Session :=
  s.armed.find? (fun r => !r.taken p && r.minuteOf p = s.clock.minute)

/-- The point to take first at this minute: in the order E, A, B, G, and of one letter the earlier record's (R11). -/
def State.duePoint (s : State) : Option (Point × Nat) :=
  [Point.pointE, Point.pointA, Point.pointB, Point.pointG].findSome? (fun p => (s.dueRecord p).map (fun r => (p, r.id)))

/-- The points of this minute are taken one after the other, each with its full effect before the next (R11). Each is marked or
leaves with its record, so four times sixteen turns settle the minute. -/
def takeTurns : Nat → State → State
  | 0, s => s
  | n + 1, s =>
    match s.duePoint with
    | none => s
    | some (p, id) => takeTurns n (s.deliver p id).armNext

/-- Take every armed point of this minute (R11). -/
def State.takePoints (s : State) : State := if s.clock.timeValid then takeTurns 64 s else s

/-! ## Steps of the clock (R1 to R6) -/

/-- Set the wing minute. -/
def State.setMinute (s : State) (m : Nat) : State := s.modClock fun c => { c with minute := m }

/-- A minute is reached: its compare points are taken while the clock is valid (R6, R11), and the override records that expire
at it are removed in any case (R152). -/
def State.reachMinute (s : State) (m : Nat) : State := (s.setMinute m).takePoints.expireRecords

/-- The next `n` minutes are reached in ascending order (R3). -/
def State.reachMinutes : Nat → State → State
  | 0, s => s
  | n + 1, s => reachMinutes n (s.reachMinute (s.clock.minute + 1))

/-- The clock's own advance (R1): the next minute is reached, or after the last one the clock steps back to minute 0, and no
minute is reached (R4). -/
def State.advanceMinute (s : State) : State :=
  if s.clock.minute < maxMinute then s.reachMinute (s.clock.minute + 1) else s.setMinute 0

/-- The first valid time (R5, R152): ended records leave, marks are set afresh, derivation is run unless the node is a joined
follower, and the override records that have expired are removed. -/
def State.firstValidTime (s : State) (m : Nat) : State :=
  let s1 := (s.setMinute m).modClock fun c => { c with timeValid := true }
  let s2 := s1.dropEnded.markAllAfresh
  let s3 := if s2.isFollower then s2 else s2.handling State.derive
  s3.expireRecords

/-- An accepted TIME frame (R2): the seconds are set, and the new minute makes a first valid time, a forward step, a backward
step, or none. -/
def State.setTime (s : State) (minute second : Nat) : State :=
  let s1 := s.modClock fun c => { c with boundaryDue := s.now + secs (60 - second) }
  if !s1.clock.timeValid then s1.firstValidTime minute
  else if s1.clock.minute < minute then State.reachMinutes (minute - s1.clock.minute) s1
  else s1.setMinute minute

/-! ## The merge (R15 to R21) -/

/-- The scope an entry's room id gives (R15); none when the entry is for another room. -/
def State.entryScope (s : State) (room : Nat) : Option Scope :=
  if room = s.cfg.room then some .leaf
  else if s.cfg.partner ≠ 0 ∧ room = s.cfg.pairRoom then some .joined
  else none

/-- The preference of an entry (R7, R15): absent, or present with its trim clamped; none where its policy is undefined. -/
def TtEntryFields.preference (f : TtEntryFields) : Option (Option Preference) :=
  if f.prefPresent then
    (PrefPolicy.ofCode f.prefPolicy).map fun p => some ⟨clampInt (-300) 300 f.trim, p⟩
  else some none

/-- The field checks that refuse with BAD_FIELD besides the codes (R15, R190). -/
def TtEntryFields.rangesOk (f : TtEntryFields) : Bool :=
  f.session ≠ 0 && f.scene ≤ 7 && f.start < f.finish && f.finish - f.start ≤ 600 && f.start ≤ maxMinute
    && f.finish ≤ maxMinute

/-- The record an entry describes, its fields clamped and checked, with the marks of a placement (R10, R15); none for
BAD_FIELD. -/
def TtEntryFields.session? (f : TtEntryFields) (scope : Scope) : Option Session :=
  match SessionKind.ofCode f.kind, f.preference with
  | some kind, some pref =>
    if f.rangesOk then
      some
        { id := f.session
          start := f.start
          finish := f.finish
          kind := kind
          scope := scope
          expected := min 511 f.expected
          scene := f.scene
          lead := min 120 f.lead
          grace := max 5 (min 30 f.grace)
          pref := pref
          takenA := min 120 f.lead = 0
          takenB := false
          takenG := kind = .exam
          takenE := false }
    else none
  | _, _ => none

/-- Refuse an entry (R21). -/
def State.refuseEntry (s : State) (id : Nat) (reason : RefuseReason) : State := s.latchEvent (.ttRefused id reason)

/-- Count an entry as merged (R21). -/
def State.countMerged (s : State) : State :=
  s.modSessions fun t => { t with transfer := t.transfer.map fun x => { x with accepted := x.accepted + 1 } }

/-- The current record is followed as running: EXPECTED, OCCUPIED or RELEASED (R16). -/
def Occupancy.runs : Occupancy → Bool
  | .expected | .occupied | .released => true
  | _ => false

/-- A running record with the fields an update replaces (R16). -/
def Session.update (r e : Session) : Session :=
  { r with finish := e.finish, expected := e.expected, scene := e.scene, pref := e.pref, takenE := false }

/-- The readers of the current record take an update (R7, R71, R96, R107), and the level-3 records that ended with the session
move their expiry (R152). -/
def State.applyUpdate (s : State) (r e : Session) : State :=
  let s1 := s.modRecordOf r.id (·.update e)
  let s2 := s1.modOverrides fun o => { o with records := o.records.mapHeld (moveExpiry r.finish e.finish) }
  s2.evaluate.relightAndShade

/-- The update of a running session (R16): refused with OVERLAP, or taken, and where its new end is at or before now the
records that end with it expire and its E is delivered at once, in this order (DEDUCED: assumption log, entry 35). -/
def State.updateRunning (s : State) (r e : Session) : State :=
  if e.start ≠ r.start ∨ s.nextRecord.any (fun n => n.start < e.finish) then s.refuseEntry e.id .overlap
  else
    let s1 := (s.applyUpdate r e).countMerged
    if e.finish ≤ s.clock.minute then (s1.expireRecords.deliver .pointE r.id).armNext else s1

/-- Two records' intervals overlap (R18). -/
def Session.overlaps (a b : Session) : Bool := a.start < b.finish && b.start < a.finish

/-- A new record would stand before a current record that is EXPECTED, OCCUPIED or RELEASED (R18): such an entry is refused,
begun or not, so that the current record stays the earliest (R9; assumption log, entry 9). -/
def State.beforeCurrent (s : State) (e : Session) : Bool :=
  s.room.occupancy.runs && s.currentRecord.any (fun r => e.start < r.start)

/-- Why a new record is refused (R18, R19); none when it is placed. -/
def State.placementRefusal (s : State) (e : Session) : Option RefuseReason :=
  if s.clock.timeValid ∧ e.finish ≤ s.clock.minute then some .past
  else if s.sessions.records.any (fun r => r.overlaps e) then some .overlap
  else if s.beforeCurrent e then some .overlap
  else if 16 ≤ s.sessions.records.length ∧ s.sessions.records.getLast?.any (fun l => l.start < e.start) then some .full
  else none

/-- A record put at its place by start. -/
def insertSession (e : Session) : List Session → List Session
  | [] => [e]
  | r :: rs => if e.start < r.start then e :: r :: rs else r :: insertSession e rs

/-- Place a record; from a full table the last one is evicted first (R19, R20). -/
def State.placeSession (s : State) (e : Session) : State :=
  s.modRecords fun rs => insertSession e (if 16 ≤ rs.length then rs.dropLast else rs)

/-- The core of the re-evaluation of a PRECONDITION mark (R20). -/
def State.remark (s : State) : State :=
  match s.sessions.records.head? with
  | none => s.releaseMark.setOccupancy .vacant
  | some r =>
    if r.minuteOf .pointA ≤ s.clock.minute then
      (s.modRecordOf r.id (·.mark .pointA)).follow r.id .precondition
    else s.releaseMark.setOccupancy .vacant

/-- Take a point within the handling that finds it late. -/
def State.takeLate (s : State) (p : Point) (id : Nat) : State :=
  if s.isLate p id then (s.modRecordOf id (·.mark p)).deliverCore p id else s

/-- The whole core of a re-evaluation (R20): where the mark goes, and then the B and the G of the record it marks, where late. -/
def State.remarkCore (s : State) : State :=
  let s1 := s.remark
  match s1.room.current with
  | none => s1
  | some id => (s1.takeLate .pointB id).takeLate .pointG id

/-- The re-evaluation of a PRECONDITION mark (R20): one handling with one result (R43). The readers of the current record then
take it afresh even where its state and its id are those of before, because a same-id entry that replaces the record may change
its attendance, scope, scene or preference (R7, R71, R97, R107; assumption log, entry 26). -/
def State.reevaluateMark (s : State) : State := (s.handling State.remarkCore).evaluate.relightAndShade

/-- A new record is refused or placed (R18 to R20). -/
def State.placeNew (s : State) (e : Session) : State :=
  match s.placementRefusal e with
  | some reason => s.refuseEntry e.id reason
  | none => (s.placeSession e).countMerged

/-- The current mark needs a re-evaluation (R17, R20): in PRECONDITION, the marked record is no longer the earliest held, or
its record was removed and perhaps placed again. -/
def State.markMoved (s : State) (removedCurrent : Bool) : Bool :=
  s.room.occupancy = .precondition && s.room.current.isSome &&
    (removedCurrent || (s.sessions.records.head?.map (·.id)) ≠ s.room.current)

/-- A new record, in place of a held one of its id (R17 to R20); then the next record is armed (R12). Where R17 removes a record
that was next, the record that follows it is armed once, after the entry has been placed or refused, and not in between
(assumption log, entry 25). A joined follower whose table changes under the mirrored session id forms its loop target at the next
PAIR_STATE, and reads n_exp at its next evaluation (R75, R111; assumption log, entry 27). -/
def State.mergeNew (s : State) (e : Session) : State :=
  let removedCurrent := s.room.current = some e.id
  let s1 := (s.removeSession e.id).placeNew e
  (if s1.markMoved removedCurrent then s1.reevaluateMark else s1).armNext

/-- The merge of an entry (R15 to R21). -/
def State.mergeEntry (s : State) (f : TtEntryFields) : State :=
  match s.entryScope f.room with
  | none => s
  | some scope =>
    match f.session? scope with
    | none => s.refuseEntry f.session .badField
    | some e =>
      match s.recordOf e.id with
      | some r =>
        if s.room.current = some e.id ∧ s.room.occupancy.runs then s.updateRunning r e else s.mergeNew e
      | none => s.mergeNew e

/-! ## Cancelling (R22) -/

/-- Cancel a session. -/
def State.cancelSession (s : State) (id : Nat) : State :=
  if (s.recordOf id).isNone then s
  else if s.room.current = some id then (s.handling fun s' => s'.retire false).armNext
  else (s.removeSession id).armNext

/-! ## The transfer (R23 to R25) -/

/-- Close the open transfer and report how it ended. -/
def State.closeTransfer (s : State) (reason : DoneReason) : State :=
  match s.sessions.transfer with
  | none => s
  | some t =>
    (s.modSessions fun x => { x with transfer := none }).latchEvent
      (.ttDone t.generation t.accepted t.remaining reason)

/-- The count of a TT_BEGIN: 0 stands for 32, and a count above 32 is clamped (R23). -/
def transferCount (n : Nat) : Nat := if n = 0 then 32 else min 32 n

/-- REPLACE (R23, R6): the records that start after now and are not current leave; every record while the clock is invalid. -/
def State.replaceFuture (s : State) : State :=
  s.modRecords (·.filter fun r => s.clock.timeValid && (r.start ≤ s.clock.minute || s.room.current = some r.id))

/-- A TT_BEGIN (R23). -/
def State.beginTransfer (s : State) (source : Nat) (f : TtBeginFields) : State :=
  let s1 := s.closeTransfer .superseded
  let s2 := s1.modSessions fun x =>
    { x with
      transfer := some
        { source := source
          generation := f.generation
          index := 0
          remaining := transferCount f.count
          accepted := 0
          silenceDue := s1.now + secs 5 } }
  if f.replace then s2.replaceFuture.armNext else s2

/-- Count an entry in sequence and restart the silence timer (R24). -/
def State.countEntry (s : State) : State :=
  s.modSessions fun x =>
    { x with
      transfer := x.transfer.map fun t =>
        { t with index := t.index + 1, remaining := t.remaining - 1, silenceDue := s.now + secs 5 } }

/-- The transfer completes when nothing remains (R24). -/
def State.finishTransfer (s : State) : State :=
  match s.sessions.transfer with
  | some t => if t.remaining = 0 then s.closeTransfer .complete else s
  | none => s

/-- A TT_ENTRY against the open transfer (R24). -/
def State.transferEntry (s : State) (source : Nat) (f : TtEntryFields) : State :=
  match s.sessions.transfer with
  | none => s
  | some t =>
    if source ≠ t.source then s
    else if f.generation ≠ t.generation then s
    else if f.index ≠ t.index then s.closeTransfer .indexGap
    else (s.countEntry.mergeEntry f).finishTransfer

end Sys2Proof.Machine
end

