-- ==== Sys2Proof/Machine/EvidenceUnit.lean ====
section
/-! DEFINITION. The Evidence Unit (chapter 2): evidence events, the door-pair window, the DOOR fault, the vacancy expiries and the
three analogue inputs. -/

namespace Sys2Proof.Machine

/-! ## Evidence events (R31 to R33) -/

/-- An event is confirming (R33): an ENTRY, or at most 2 minutes after the confirmation mark. -/
def State.confirms (s : State) (k : EvidenceKind) : Bool :=
  k = .entry || s.evidence.confirmMark.any (fun t => s.now - t ≤ mins 2)

/-- Record an event (R32, R33): its time restarts the quiet timing, and an event other than an ENTRY sets the mark. -/
def State.recordEvidence (s : State) (k : EvidenceKind) : State :=
  s.modEvidence fun e =>
    { e with
      lastEvidence := some s.now
      holdPassed := false
      triplePassed := false
      confirmMark := if k = .entry then e.confirmMark else some s.now }

/-- A follower reports evidence to the lead (R140): the flag is set, an attempt in flight is told, PAIR_STATE is queued. -/
def State.reportEvidence (s : State) : State :=
  ((s.modPair fun p => { p with evidenceFlag := true }).modLink fun l =>
    { l with
      attempt := l.attempt.map fun a => if a.kind = .pairState then { a with evidenceSince := true } else a }).queueReport
    .pairState

/-- An evidence event, in the order of R32. -/
def State.evidenceEvent (s : State) (k : EvidenceKind) : State :=
  let confirming := s.confirms k
  let s1 := (s.recordEvidence k).handling (fun x => x.roomEvidence confirming)
  if k ≠ .partner ∧ s1.isFollower then s1.reportEvidence else s1

/-! ## The door-pair window (R27 to R30) -/

/-- Set the window. -/
def State.setWindow (s : State) (w : Option Window) : State := s.modEvidence fun e => { e with window := w }

/-- A pair of breaks ending at a beam (R27, R29): an entry ends at the inner beam, an exit at the outer. -/
def State.pairedBreak (s : State) (b : Beam) : State :=
  match b with
  | .inner => ((s.setWindow none).setHeadcount (min 511 (s.evidence.headcount + 1))).evidenceEvent .entry
  | .outer => ((s.setWindow none).setHeadcount (s.evidence.headcount - 1)).evidenceEvent .exit

/-- A break taken against the window (R27); while the DOOR fault stands a break of a beam not stuck is unpaired at once
(R30). -/
def State.takeBreak (s : State) (b : Beam) : State :=
  if s.doorFault then (if s.evidence.stuckMark.get b then s else s.evidenceEvent .unpaired)
  else
    match s.evidence.window with
    | none => s.setWindow (some ⟨b, s.now⟩)
    | some w => if w.beam = b then (s.setWindow (some ⟨b, s.now⟩)).evidenceEvent .unpaired else s.pairedBreak b

/-- Start or stop a beam's stuck timer (R26). -/
def State.setStuckDue (s : State) (b : Beam) (due : Option Nat) : State :=
  s.modEvidence fun e => { e with stuckDue := e.stuckDue.set b due }

/-- Mark a beam stuck, or clear its mark (R30). -/
def State.setStuckMark (s : State) (b : Beam) (m : Bool) : State :=
  s.modEvidence fun e => { e with stuckMark := e.stuckMark.set b m }

/-- Set the level of a beam input. -/
def State.setBeam (s : State) (b : Beam) (broken : Bool) : State :=
  s.modPins fun p => { p with broken := p.broken.set b broken }

/-- The DOOR fault comes to stand (R30): SENSOR_FAULT, an open window closed as an unpaired break, the flag handed to the Air
Share Engine. -/
def State.declareDoorFault (s : State) : State :=
  let s1 := s.latchEvent (.sensorFault .door)
  let s2 := if s1.evidence.window.isSome then (s1.setWindow none).evidenceEvent .unpaired else s1
  s2.evaluate

/-- A beam is marked stuck (R30). -/
def State.markStuck (s : State) (b : Beam) : State :=
  let s1 := (s.setStuckDue b none).setStuckMark b true
  if s.doorFault then s1 else s1.declareDoorFault

/-- A beam's release at the Evidence Unit (R26, R30): its timer stops, its mark is cleared, and an end of the fault is handed
to the Air Share Engine. -/
def State.releaseBeam (s : State) (b : Beam) : State :=
  let s1 := (s.setStuckDue b none).setStuckMark b false
  if s.doorFault ∧ ¬ s1.doorFault then s1.evaluate else s1

/-! ## The vacancy expiries (R34, R36) -/

/-- The due time of the expiry at one hold, while it is ahead. -/
def State.holdDue (s : State) : Option Nat :=
  if s.evidence.holdPassed then none else s.evidence.lastEvidence.map (· + s.holdMs)

/-- The due time of the expiry at three holds, while it is ahead. -/
def State.tripleDue (s : State) : Option Nat :=
  if s.evidence.triplePassed then none else s.evidence.lastEvidence.map (· + 3 * s.holdMs)

/-- The test at one hold (R34); under suppression it is not made (R36). -/
def State.passHold (s : State) : State :=
  let s1 := s.modEvidence fun e => { e with holdPassed := true }
  if s1.suppressedBy = none ∧ s1.testedHeadcount = 0 then s1.declareVacancy else s1

/-- The expiry at three holds (R34, R36). -/
def State.passTriple (s : State) : State :=
  let s1 := s.modEvidence fun e => { e with triplePassed := true }
  if s1.suppressedBy = none then s1.declareVacancy else s1

/-! ## Analogue inputs (R38 to R41) -/

/-- A CO2 reading (R39): valid at 60..1000 counts. -/
def State.takeCo2 (s : State) (counts : Nat) : State :=
  let s1 := s.modEvidence fun e => { e with co2Due := s.now + secs 10 }
  if 60 ≤ counts ∧ counts ≤ 1000 then
    (s1.modEvidence fun e => { e with co2 := some (counts * 5), co2Fault := false }).evaluate
  else if s1.evidence.co2Fault then s1
  else ((s1.modEvidence fun e => { e with co2Fault := true }).latchEvent (.sensorFault .co2)).evaluate

/-- A photocell or irradiance reading at a time (R40, R41), `value` its converted value. -/
def AnalogueInput.take (a : AnalogueInput) (now counts value : Nat) : AnalogueInput :=
  if counts < 1023 then { a with held := some value, run := none, fault := false }
  else if a.fault then a
  else
    match a.run with
    | none => { a with held := some value, run := some ⟨now, a.held⟩ }
    | some r =>
      if now - r.firstAt < secs 60 then { a with held := some value } else { a with held := r.preRun, fault := true }

/-- The photocell's value in lux (R38). -/
def luxOf (counts : Nat) : Nat := counts * 2

/-- The irradiance in W/m² (R38). -/
def irradianceOf (counts : Nat) : Nat := counts * 6 / 5

/-- SENSOR_FAULT where a reading has set the fault flag (R41). -/
def State.latchIfSet (s : State) (before after : Bool) (i : SensorInput) : State :=
  if !before && after then s.latchEvent (.sensorFault i) else s

/-- A photocell sample (R38, R40, R41, R100): the reading, then the loop step. -/
def State.takePhoto (s : State) (counts : Nat) : State :=
  let before := s.evidence.photo
  let after := { before.take s.now counts (luxOf counts) with sampleDue := s.now + secs 2 }
  ((s.modEvidence fun e => { e with photo := after }).latchIfSet before.fault after.fault .photo).loopStep

/-- Set the glare flag and its timer (R104). -/
def State.setGlare (s : State) (g : Bool) (dwell : Option Nat) : State :=
  s.modShade fun p => { p with glare := g, dwellDue := dwell }

/-- An irradiance reading against the thresholds (R104, R106). -/
def State.glareReading (s : State) : State :=
  let c := s.cfg
  if s.evidence.irrad.fault then s.setGlare s.shade.glare none
  else
    match s.evidence.irrad.held with
    | none => s
    | some v =>
      if !s.shade.glare then (if c.glareThreshold < v then (s.setGlare true none).reshade else s)
      else if c.glareThreshold - c.hysteresis ≤ v then s.setGlare true none
      else if s.shade.dwellDue.isSome then s
      else s.setGlare true (some (s.now + mins 10))

/-- An irradiance sample (R38, R40, R41, R104). -/
def State.takeIrradiance (s : State) (counts : Nat) : State :=
  let before := s.evidence.irrad
  let after := { before.take s.now counts (irradianceOf counts) with sampleDue := s.now + secs 10 }
  ((s.modEvidence fun e => { e with irrad := after }).latchIfSet before.fault after.fault .irrad).glareReading

/-- The glare flag is cleared by its timer (R104). -/
def State.clearGlare (s : State) : State := (s.setGlare false none).reshade

end Sys2Proof.Machine
end

