-- ==== Sys2Proof/Machine/PairUnit.lean ====
section
/-! DEFINITION. The Pair Unit (chapter 7): offering, entering and leaving a role, what a PAIR_STATE does at a lead and at a
follower, and the partner's part of the Peer Table. -/

namespace Sys2Proof.Machine

/-! ## The partner (R130, R136) -/

/-- A pair frame is the partner's: the node is divisible and the source is the configured partner (R130). -/
def State.fromPartner (s : State) (source : Nat) : Bool := s.isDivisible && source = s.cfg.partner

/-- The role of this node in a join (R136): the lower address leads. -/
def State.role (s : State) : PairState := if s.cfg.station < s.cfg.partner then .joinedLead else .joinedFollow

/-- Write the partner's M_max into its Peer Table record, where one is held (R166, R167), and hand a change to the Air Share
Engine (R133). An evaluation whose inputs are unchanged changes nothing (R71). -/
def State.writePartnerMax (s : State) (m : Nat) : State :=
  (s.withPeers (s.peers.map fun p => if p.address = s.cfg.partner then { p with pairPart := some m } else p)).evaluate

/-! ## Offering (R132, R145) -/

/-- Enter OFFERING: count 1, JOIN_OFFER queued, the retry timer started for 10 s (R132). -/
def State.enterOffering (s : State) : State :=
  (s.modPair fun p => { p with state := .offering, offerCount := 1, offerDue := some (s.now + secs 10) }).queuePairCtrl
    .joinOffer

/-- The offer count after one more offer, saturating at 255 (R132). -/
def nextOfferCount (n : Nat) : Nat := min 255 (n + 1)

/-- The seconds to the next offer once the count has been increased (R132). -/
def offerInterval (count : Nat) : Nat := if count ≤ 2 then 10 else 60

/-- The offer retry timer expires: in OFFERING by R132, in PARTNER_LOST by R145. -/
def State.offerAgain (s : State) : State :=
  match s.pair.state with
  | .offering =>
    (s.modPair fun p =>
      { p with
        offerCount := nextOfferCount p.offerCount
        offerDue := some (s.now + secs (offerInterval (nextOfferCount p.offerCount))) }).queuePairCtrl .joinOffer
  | .partnerLost => (s.modPair fun p => { p with offerDue := some (s.now + secs 60) }).queuePairCtrl .joinOffer
  | _ => s

/-- Restart the liveness timer (R144). -/
def State.restartLiveness (s : State) : State := s.modPair fun p => { p with livenessDue := some (s.now + secs 90) }

/-- PARTITION_MISMATCH with the partner address and the own reading (R133, R135). -/
def State.mismatch (s : State) : State := s.latchEvent (.partitionMismatch s.cfg.partner s.pair.readsOpen)

/-! ## Entering a role (R136) -/

/-- The own values a follower starts to mirror (R111). -/
def State.ownMirror (s : State) : Mirror :=
  { scene := s.activeNumber
    lightScene := (s.activeOverride .lightScene).map (·.value.toNat)
    lightLevel := (s.activeOverride .lightLevel).map (·.value)
    policy := s.effectivePolicy
    glare := s.glareInUse }

/-- Step 1 of R136: the role, the offer timer stopped, liveness and period started. -/
def State.takeRole (s : State) (r : PairState) : State :=
  s.modPair fun p =>
    { p with
      state := r
      offerDue := none
      offerCount := 0
      livenessDue := some (s.now + secs 90)
      periodDue := some (s.now + secs 30) }

/-- A lead's follower headcount, and n_comb formed from it (R129, R133, R141). -/
def State.setFollowerCount (s : State) (n : Nat) : State :=
  (s.modPair fun p => { p with followerCount := n }).formCombined

/-- Step 2 of R136 at a lead. -/
def State.leadItems (s : State) (headcount : Nat) : State :=
  (s.modPair fun p => { p with lastSequence := none }).setFollowerCount headcount

/-- Step 2 of R136 at a follower, with the mirrored values of R111 and the release of the current mark of R68. -/
def State.followItems (s : State) (m : Mirror) : State :=
  (s.modPair fun p =>
    { p with forwarded := none, evidenceFlag := s.fresh, combined := 0, mirror := m }).modRoom fun r =>
    { r with current := none, mirroredId := r.current, overrunScene := none, overrunDue := none }

/-- A node enters its joined role, in the order of R136. `headcount` is the one of the JOIN_OFFER, 0 for a JOIN_ACCEPT. -/
def State.enterRole (s : State) (headcount : Nat) : State :=
  let s1 :=
    if s.role = .joinedLead then (s.takeRole .joinedLead).leadItems headcount
    else s.handling fun x => (x.takeRole .joinedFollow).followItems x.ownMirror
  s1.evaluate.relightAndShade.queueReport .pairState

/-! ## Leaving a role (R142) -/

/-- Steps 1 and 2 of R142: the timers stopped and the items at their values after power-on, the node in `r`. -/
def State.resetRole (s : State) (r : PairState) : State :=
  s.modPair fun p =>
    { p with
      state := r
      livenessDue := none
      periodDue := none
      followerCount := 0
      combined := 0
      evidenceFlag := false
      forwarded := none
      sequence := 0
      lastSequence := none }

/-- A former follower's mirrored session id is dropped, the taken marks set afresh, and state derivation run (R68). -/
def State.deriveOwn (s : State) : State := (s.modRoom fun r => { r with mirroredId := none }).markAllAfresh.derive

/-- A former lead removes the records whose source is the partner (R142). -/
def State.dropPartnerRecords (s : State) : State := s.removeWhere (fun r => r.source = s.cfg.partner)

/-- The node leaves a joined state for `r`, SINGLE or PARTNER_LOST (R142). The new pair state reaches the Air Share Engine and the
lights and blinds after what the role does of its own (DEDUCED: assumption log, entry 33). -/
def State.exitRole (s : State) (r : PairState) : State :=
  let s1 := s.removeReport .pairState
  let s2 :=
    if s.isFollower then s1.handling fun x => (x.resetRole r).deriveOwn else (s1.resetRole r).dropPartnerRecords
  s2.evaluate.relightAndShade

/-- The node becomes SINGLE from any other state (R137, R138). -/
def State.becomeSingle (s : State) : State :=
  if s.isJoined then s.exitRole .single
  else s.modPair fun p => { p with state := .single, offerDue := none, offerCount := 0 }

/-! ## The partition (R131, R132, R137) -/

/-- The debounced reading becomes CLOSED (R137). -/
def State.partitionClosed (s : State) : State :=
  if s.pair.state = .single then s else (s.queuePairCtrl .joinLeave).becomeSingle

/-- The debounced reading becomes OPEN (R132). -/
def State.partitionOpened (s : State) : State :=
  if s.isDivisible ∧ s.pair.state = .single then s.enterOffering else s

/-- The debounce timer expires: a raw value other than the debounced reading becomes it (R131). -/
def State.settlePartition (s : State) : State :=
  let s1 := s.modPair fun p => { p with debounceDue := none, readsOpen := s.pins.partOpen }
  if s.pins.partOpen = s.pair.readsOpen then s1
  else if s.pins.partOpen then s1.partitionOpened
  else s1.partitionClosed

/-! ## The control messages (R133 to R135, R138) -/

/-- A JOIN_OFFER from the partner, its M_max written (R133). -/
def State.takeOffer (s : State) (headcount : Nat) : State :=
  match s.pair.state with
  | .joinedLead => ((s.queuePairCtrl .joinAccept).restartLiveness.setFollowerCount headcount).evaluate
  | .joinedFollow => (s.queuePairCtrl .joinAccept).restartLiveness
  | .single =>
    if s.pair.readsOpen then (s.queuePairCtrl .joinAccept).enterRole headcount
    else (s.queuePairCtrl .joinRefuse).mismatch
  | .offering | .partnerLost => if s.pair.readsOpen then (s.queuePairCtrl .joinAccept).enterRole headcount else s

/-- A JOIN_ACCEPT from the partner, its M_max written (R134). -/
def State.takeAccept (s : State) : State :=
  match s.pair.state with
  | .offering | .partnerLost => s.enterRole 0
  | .joinedLead | .joinedFollow => s.restartLiveness
  | .single => s

/-- A JOIN_REFUSE from the partner (R135). -/
def State.takeRefuse (s : State) : State :=
  match s.pair.state with
  | .offering | .partnerLost => s.mismatch
  | _ => s

/-- A JOIN_LEAVE from the partner (R138). -/
def State.takeLeave (s : State) : State :=
  match s.pair.state with
  | .joinedLead | .joinedFollow | .partnerLost =>
    let s1 := s.becomeSingle
    if s1.pair.readsOpen then s1.enterOffering else s1
  | .single | .offering => s

/-! ## PAIR_STATE (R141, R143, R145) -/

/-- A forwarded key as a panel request at the lead, source the partner (R143). -/
def State.forwardedRequest (s : State) (f : Forwarded) : Request :=
  match f.key with
  | .scene => panelRequest s.cfg.partner .lightScene f.value
  | .lightUp | .lightDown => panelRequest s.cfg.partner .lightLevel (s.trimmedLevel f.value)

/-- A forwarded request is handed on: the stale records go first (R143, R153). -/
def State.takeForwarded (s : State) (f : Forwarded) : State :=
  let s1 := s.removeStale
  s1.takeRequest (s1.forwardedRequest f)

/-- Step 3 of R141 at a lead: a request of a new sequence number is handed on, and the number remembered. -/
def State.followerRequest (s : State) (f : FollowFields) : State :=
  match f.forwarded with
  | none => s
  | some k =>
    if s.pair.lastSequence = some f.sequence then s
    else (s.takeForwarded k).modPair fun p => { p with lastSequence := some f.sequence }

/-- A follower's PAIR_STATE accepted at a lead (R141). -/
def State.takeFollowFrame (s : State) (f : FollowFields) : State :=
  let s1 := (s.restartLiveness.setFollowerCount f.headcount).evaluate
  let s2 := if f.evidence then s1.evidenceEvent .partner else s1
  s2.followerRequest f

/-- The lead's values become the mirrored ones; a change of the session id is a session switch (R67). -/
def State.mirrorLead (s : State) (f : LeadFields) : State :=
  let s1 := ((s.setOccupancy f.occupancy).modRoom fun r => { r with mirroredId := f.session }).modPair fun p =>
    { p with mirror := f.mirror }
  if s.room.mirroredId = f.session then s1 else s1.raiseSwitch

/-- A lead's PAIR_STATE accepted at a follower (R141). -/
def State.takeLeadFrame (s : State) (f : LeadFields) : State :=
  let s1 := (s.restartLiveness.modPair fun p => { p with combined := f.combined }).evaluate
  (s1.handling fun x => x.mirrorLead f).relightAndShade

/-- A PAIR_STATE from the partner (R141, R145). -/
def State.takePairState (s : State) (payload : List Byte) : State :=
  match s.pair.state, pairStateRole payload with
  | .joinedLead, some 1 => s.takeFollowFrame (decodeFollow payload)
  | .joinedFollow, some 0 =>
    match decodeLead payload with
    | some f => s.takeLeadFrame f
    | none => s
  | .partnerLost, some _ => s.queuePairCtrl .joinOffer
  | _, _ => s

/-! ## Loss of the partner (R144) -/

/-- The liveness timer expires: PARTNER_LOST, the exit to that state, and the 60 s offer timer (R144, R145). -/
def State.losePartner (s : State) : State :=
  ((s.latchEvent (.partnerLost s.cfg.partner)).exitRole .partnerLost).modPair fun p =>
    { p with offerDue := some (s.now + secs 60), offerCount := 0 }

/-- The pair status period timer expires: restarted for 30 s, PAIR_STATE queued (R139, R140). -/
def State.pairPeriod (s : State) : State :=
  (s.modPair fun p => { p with periodDue := some (s.now + secs 30) }).queueReport .pairState

end Sys2Proof.Machine
end

