-- ==== Sys2Proof/Machine/Panel.lean ====
section
/-! DEFINITION. The Panel Port (section 8.5): what a decoded key asks for, ROOM OFF, forwarding at a follower, and the indicator
frame. -/

namespace Sys2Proof.Machine

/-! ## The indicator (R157) -/

/-- Send an indicator frame at once, or hold it as the one waiting while another is being sent. -/
def State.sendIndicator (s : State) (i : Indicator) : State :=
  s.modOverrides fun o => if o.sending.isNone then { o with sending := some i } else { o with indicatorWaiting := some i }

/-- The indicator frame of a key whose handling has completed. -/
def State.indicate (s : State) (accepted : Bool) : State :=
  s.sendIndicator ⟨s.room.occupancy, s.light.scene, accepted⟩

/-- The transmission of an indicator ends, and the waiting one, if any, is sent. -/
def State.indicatorDone (s : State) : State :=
  s.modOverrides fun o => { o with sending := o.indicatorWaiting, indicatorWaiting := none }

/-! ## Keys (R154) -/

/-- Steps 1 and 2 of R154: the key is evidence, and the stale records go. -/
def State.keyPressed (s : State) : State := (s.evidenceEvent .panel).removeStale

/-- A request's result and whether it was accepted. -/
def State.askPanel (s : State) (r : Request) : State × Bool := (s.takeRequest r, (s.testRequest r).isNone)

/-- A panel request of this node's panel (R155). -/
def State.askOwn (s : State) (q : Quantity) (v : Int) : State × Bool := s.askPanel (panelRequest 0 q v)

/-- The Pair Unit takes a key as the forwarded request (R143). -/
def State.forward (s : State) (f : Forwarded) : State :=
  (s.modPair fun p => { p with forwarded := some f, sequence := (p.sequence + 1) % 256 }).queueReport .pairState

/-- Step 3 of R154 at a joined follower: tests 1 and 2 of R150, and the key is refused or forwarded. -/
def State.askForwarded (s : State) (q : Quantity) (f : Forwarded) : State × Bool :=
  match s.panelTests with
  | some reason => (s.latchEvent (.overrideRefused 0 (.quantity q) reason), false)
  | none => (s.forward f, true)

/-- Step 3 of R154 for a SCENE or light key: forwarded at a joined follower, and the own request of R155 elsewhere. -/
def State.askLights (s : State) (q : Quantity) (f : Forwarded) (own : Int) : State × Bool :=
  if s.isFollower then s.askForwarded q f else s.askOwn q own

/-- The whole of R154 for a decoded key: evidence, stale removal, the key's own step 3, the indicator. -/
def State.pressKey (s : State) (ask : State → State × Bool) : State :=
  let r := ask s.keyPressed
  r.1.indicate r.2

/-! ## What each key asks for (R155, R156) -/

/-- SCENE n. -/
def State.askScene (n : Fin 8) (s : State) : State × Bool := s.askLights .lightScene ⟨.scene, (n.val : Int)⟩ (n.val : Int)

/-- LIGHT UP. -/
def State.askLightUp (s : State) : State × Bool := s.askLights .lightLevel ⟨.lightUp, 50⟩ (s.trimmedLevel 50)

/-- LIGHT DOWN. -/
def State.askLightDown (s : State) : State × Bool := s.askLights .lightLevel ⟨.lightDown, -50⟩ (s.trimmedLevel (-50))

/-- The bank whose position BLINDS STOP asks for: that of the move in flight, or bank 1. -/
def State.stopBank (s : State) : Bank :=
  match s.drive.move with
  | some m => m.bank
  | none => .bank1

/-- BLINDS STOP: the current position of the stop bank. -/
def State.askBlindsStop (s : State) : State × Bool := s.askOwn .blinds (s.currentPosition s.stopBank : Int)

/-- The value of a panel AIR_BOOST request is at most the panel boost ceiling, and the key asks for the ceiling itself. -/
def State.askAirBoost (s : State) : State × Bool := s.askOwn .airBoost (s.cfg.boostCeiling : Int)

/-- Every level-3 record is removed, whatever its source and whether stale or not (R156). -/
def State.removeLevel3 (s : State) : State := s.removeWhere (fun r => r.level = 3)

/-- Step 2 of R156: in ADHOC, but not at a joined follower, vacancy is declared (R37). -/
def State.requestVacancy (s : State) : State :=
  if s.room.occupancy = .adhoc ∧ ¬ s.isFollower then s.declareVacancy else s

/-- ROOM OFF (R156). -/
def State.askRoomOff (s : State) : State × Bool :=
  match s.panelTests with
  | some reason => (s.latchEvent (.overrideRefused 0 .roomOff reason), false)
  | none => (s.removeLevel3.requestVacancy, true)

end Sys2Proof.Machine
end

