-- ==== Sys2Proof/Machine/SafetyHold.lean ====
section
/-! DEFINITION. Life-safety and hold (sections 8.6 and 8.7): forming the mode, its start, its change and its end, and HOLD ON and
HOLD OFF. -/

namespace Sys2Proof.Machine

/-! ## The mode (R158) -/

/-- The life-safety mode formed from the frame mode and the FIRE input. -/
def formedMode (frame : LifeSafety) (fire : Bool) : LifeSafety :=
  match frame with
  | .smokeHold p => .smokeHold p
  | .evacuate => .evacuate
  | .off => if fire then .evacuate else .off

/-- Hold a life-safety mode. -/
def State.setMode (s : State) (m : LifeSafety) : State := s.modOverrides fun o => { o with lifeSafety := m }

/-! ## What the blocks do (R159) -/

/-- The start of life-safety: the air record and the damper, the lights, the drive's own part, and the SAFETY requests. -/
def State.startSafety (s : State) : State := s.evaluate.safetyDamper.relight.driveLifeSafety.reshade

/-- The targets are decided afresh, and a request goes out for each bank whose target is a position, whether or not the target
has changed (R113): the occasions of the end of life-safety and of the start of running. -/
def State.decideAnew (s : State) : State :=
  Bank.all.foldl (fun s' b =>
    match s.bankTarget b with
    | none => s'.setHeld b none
    | some t => (s'.setHeld b (some t)).requestBank b t) s

/-- The end of life-safety: the air record, the lights, and the targets decided afresh and issued. -/
def State.endSafety (s : State) : State := s.evaluate.relight.decideAnew.handCarried

/-- The mode changes from the one held: its start and its end reach every block, a change between two active modes the damper
alone (R159); a mode formed equal to the one in force changes nothing (R158). -/
def State.changeMode (s : State) (m : LifeSafety) : State :=
  if m = s.overrides.lifeSafety then s
  else
    let s1 := s.setMode m
    if s.overrides.lifeSafety = .off then s1.startSafety
    else if m = .off then s1.endSafety
    else s1.safetyDamper

/-- The mode is formed afresh (R158). -/
def State.formMode (s : State) : State := s.changeMode (formedMode s.overrides.frameMode s.pins.fire)

/-- An accepted LIFE_SAFETY frame (R158). -/
def State.takeSafetyFrame (s : State) (m : LifeSafety) : State :=
  (s.modOverrides fun o => { o with frameMode := m }).formMode

/-! ## Hold (R160) -/

/-- HOLD ON: the outputs stay, and a move without origin SAFETY is cut (R126). -/
def State.holdOnNow (s : State) : State :=
  if s.overrides.hold then s else (s.modOverrides fun o => { o with hold := true }).driveHoldOn

/-- HOLD OFF: the outputs are set to their computed values, the drive grants, and the held targets are issued again. R126 allows
either order of the last two; the grant comes first (DESIGN CHOICE: assumption log, entry 30). -/
def State.holdOffNow (s : State) : State :=
  if s.overrides.hold then
    (s.modOverrides fun o => { o with hold := false }).driveDamper.driveDims.grant.reissue
  else s

/-- A HOLD or RESTART target names this node (R160). -/
def State.isTarget (s : State) (address : Nat) : Bool := address = s.cfg.station || address = 127

end Sys2Proof.Machine
end

