-- ==== Sys2Proof/Machine/Reports.lean ====
section
/-! DEFINITION. The transmit path (sections 9.3 to 9.6): the payloads of the frames the node sends, the start of an attempt, its
completion, a collision with its backoff or abandonment, and the periodic reports. -/

namespace Sys2Proof.Machine

/-! ## Payloads (R190) -/

/-- A session id field: 0 for none (R187). -/
def sessionField (id : Option Nat) : List Byte := put16 (id.getD 0)

/-- A bank's byte in ROOM_STATUS: its current position and its uncertain flag. -/
def State.bankByte (s : State) (b : Bank) : Nat := s.currentPosition b + 128 * bit (s.drive.uncertain.get b)

/-- The level held for a quantity, 0 for none (R147). -/
def State.levelHeld (s : State) (q : Quantity) : Nat := ((s.overrides.records.get q).map (·.level)).getD 0

/-- The override levels, 2 bits a quantity in quantity order from bit 0. -/
def State.levelField (s : State) : Nat := (Quantity.all.map (fun q => s.levelHeld q * 4 ^ q.code)).sum

/-- A disabled kind's latch is set (R179). -/
def State.disabledLatched (s : State) (k : EventKind) : Bool := !s.eventEnabled k && (s.link.latches.get k).isSome

/-- The disabled-latched mask: bit k-1 for event kind k (R179). -/
def State.latchedMask (s : State) : BitVec 16 :=
  BitVec.ofNat 16 ((EventKind.all.map (fun k => bit (s.disabledLatched k) * 2 ^ (k.number - 1))).sum)

/-- ROOM_STATUS, length 24 (R180, R190). -/
def State.statusPayload (s : State) : List Byte :=
  put8 (s.room.occupancy.code + 8 * s.pair.state.code + 64 * bit s.overrides.hold + 128 * bit s.air.pinch)
    ++ put8 (s.air.airClass + 4 * s.overrides.lifeSafety.code + 16 * s.light.scene
        + 128 * (s.evidence.headcount / 256 % 2))
    ++ sessionField s.sessionId
    ++ put8 (s.evidence.headcount % 256)
    ++ put16 (s.evidence.co2.getD 0xFFFF)
    ++ put16 s.air.demand ++ put16 s.air.floor ++ put16 s.air.grant
    ++ put16 s.out.dim1 ++ put16 s.out.dim2
    ++ put8 (s.bankByte .bank1) ++ put8 (s.bankByte .bank2) ++ put8 (s.bankByte .bank3)
    ++ put16 s.levelField
    ++ put16 s.latchedMask.toNat

/-- The minutes since the node last began running, saturating at 65535 (R180). -/
def State.minutesRunning (s : State) : Nat := min 65535 ((s.now - s.link.runningSince) / 60000)

/-- IDENTITY, length 15: vendor code 4D57h, part code 0D02h, the revision fixed in the part (R180, R190; assumption log,
entry 4). -/
def State.identityPayload (s : State) : List Byte :=
  put16 0x4D57 ++ put16 0x0D02 ++ [Config.siliconRevision]
    ++ put8 s.cfg.station ++ put16 s.cfg.room
    ++ put16 (if s.cfg.partner = 0 then 0 else s.cfg.pairRoom)
    ++ put8 s.cfg.partner ++ put8 s.cfg.riser
    ++ put8 (bit s.loader.clampedAtStart)
    ++ put16 s.minutesRunning

/-- EVENT, length 8: the kind, and the count and first detail as the latch holds them (R178, R190). -/
def State.eventPayload (s : State) (k : EventKind) : List Byte :=
  match s.link.latches.get k with
  | some l => put8 k.number ++ put8 l.count ++ padTo 6 l.detail.bytes
  | none => put8 k.number ++ List.replicate 7 0

/-- DEMAND, length 6 (R92, R190). -/
def State.demandPayload (s : State) : List Byte :=
  put8 s.cfg.riser ++ put16 s.air.demand ++ put16 s.air.floor ++ put8 s.air.airClass

/-- A lead's PAIR_STATE, length 11 (R139, R190). -/
def State.leadPayload (s : State) : List Byte :=
  let v := s.carriedValues
  put8 0 ++ put8 s.room.occupancy.code ++ sessionField s.sessionId ++ put8 v.scene ++ put16 s.pair.combined
    ++ put8 (v.policy.code + 128 * bit v.glare)
    ++ put8 (v.lightScene.getD 0xFF)
    ++ putS16 (v.lightLevel.getD (-32768))

/-- The three bytes of a forwarded request in a follower's PAIR_STATE: key, value, sequence. -/
def forwardedBytes (f : Option Forwarded) (sequence : Nat) : List Byte :=
  match f with
  | some k => put8 k.key.code ++ putS8 k.value ++ put8 sequence
  | none => [0, 0, 0]

/-- A follower's PAIR_STATE, length 7 (R140, R190). -/
def State.followPayload (s : State) : List Byte :=
  put8 1 ++ put16 s.evidence.headcount ++ put8 (bit s.pair.evidenceFlag)
    ++ forwardedBytes s.pair.forwarded s.pair.sequence

/-- PAIR_STATE in the node's role (R139, R140). -/
def State.pairStatePayload (s : State) : List Byte := if s.isFollower then s.followPayload else s.leadPayload

/-- A pair-control message's payload (R190). -/
def State.pairCtrlPayload (s : State) (m : PairMsg) : List Byte :=
  match m with
  | .joinOffer => put16 s.cfg.mMax ++ put16 s.evidence.headcount
  | .joinAccept => put16 s.cfg.mMax
  | .joinRefuse => []
  | .joinLeave => []

/-- The payload of a report kind, from its owner's state as it stands (R168). -/
def State.payloadOf (s : State) (e : Entry) : List Byte :=
  match e.kind with
  | .pairCtrl => s.pairCtrlPayload (e.msg.getD .joinOffer)
  | .pairState => s.pairStatePayload
  | .event k => s.eventPayload k
  | .demand => s.demandPayload
  | .roomStatus => s.statusPayload
  | .identity => s.identityPayload

/-! ## An attempt (R168) -/

/-- The attempt of an entry: its frame, of sender class 3 and the node's own address, and what the frame carries. -/
def State.attemptOf (s : State) (e : Entry) : Attempt :=
  { kind := e.kind
    bytes := frameOnLine s.cfg.station 3 (e.kind.code e.msg) (s.payloadOf e)
    msg := e.msg
    demand := s.air.demand
    mask := s.latchedMask
    evidence := s.pair.evidenceFlag
    evidenceSince := false
    orphan := false
    attempts := e.attempts }

/-- The transmit path is ready: no attempt, no backoff, no long pause. The idle gap of the line is the environment's
(assumption log, entry 15). -/
def State.mayTransmit (s : State) : Bool :=
  s.link.attempt.isNone && s.link.backoff.isNone && s.link.longPause.isNone

/-- An attempt starts with the entry at the head of the queue. -/
def State.startAttempt (s : State) : State :=
  if s.mayTransmit then
    match s.link.queue with
    | e :: _ => s.modLink fun l => { l with attempt := some (s.attemptOf e) }
    | [] => s
  else s

/-- The attempt ends: nothing is in flight. -/
def State.endAttempt (s : State) : State := s.modLink fun l => { l with attempt := none }

/-! ## Completion (R170, R173, R175, R178, R179) -/

/-- What a completed EVENT frame leaves of its latch (R178): clear, or carried on with its later part. -/
def latchAfterReport (l : Option Latch) : Option Latch :=
  (l.bind (·.later)).map fun p => ⟨p.detail, p.count, none⟩

/-- What a completed ROOM_STATUS leaves of a latch whose flag it carried (R179). -/
def State.settleDisabled (s : State) (mask : BitVec 16) (k : EventKind) : State :=
  if mask.getLsbD (k.number - 1) then s.setLatch k (latchAfterReport (s.link.latches.get k)) else s

/-- Restart the status period timer (R180). -/
def State.restartStatus (s : State) : State := s.modLink fun l => { l with statusDue := s.now + secs s.cfg.statusPeriod }

/-- Restart the demand period timer (R93). -/
def State.restartDemand (s : State) : State := s.modAir fun a => { a with demandDue := s.now + secs s.cfg.demandPeriod }

/-- A completed PAIR_STATE: the period timer restarts, and a flag that the frame carried, with no evidence since, is cleared
(R139, R140). -/
def State.settlePairState (s : State) (a : Attempt) : State :=
  if s.isJoined then
    s.modPair fun p =>
      { p with
        periodDue := some (s.now + secs 30)
        evidenceFlag := p.evidenceFlag && !(a.evidence && !a.evidenceSince) }
  else s

/-- The owner's action at a transmit completion (R170). -/
def State.ownerAction (s : State) (a : Attempt) : State :=
  match a.kind with
  | .demand => (s.modAir fun x => { x with lastPublished := some a.demand }).restartDemand
  | .roomStatus => (EventKind.all.foldl (fun s' k => s'.settleDisabled a.mask k) s).restartStatus
  | .pairState => s.settlePairState a
  | .event k => s.setLatch k (latchAfterReport (s.link.latches.get k))
  | .pairCtrl => s
  | .identity => s

/-- The latch of a sent EVENT is carried on (R178). -/
def State.carriedOn (s : State) (k : ReportKind) : Bool :=
  match k with
  | .event e => (s.link.latches.get e).isSome
  | _ => false

/-- Queue the sent kind again if its requeue mark was set or its latch is carried on (R175). -/
def State.requeueSent (s : State) (e : Entry) : State :=
  if e.requeue || s.carriedOn e.kind then s.queueWith e.kind e.msg else s

/-- A completion of an attempt whose entry is queued: the entry leaves, its owner acts, the queue is refilled. -/
def State.completeEntry (s : State) (a : Attempt) (e : Entry) : State :=
  (((s.endAttempt.dropEntry a.kind).ownerAction a).requeueSent e).refill

/-- The transmit completion (R170). The attempt of a removed entry ends without owner action (R173). -/
def State.completeAttempt (s : State) : State :=
  match s.link.attempt with
  | none => s
  | some a =>
    if a.orphan then s.endAttempt
    else
      match s.entryOf a.kind with
      | some e => s.completeEntry a e
      | none => s.endAttempt

/-! ## Collision (R169, R171, R178) -/

/-- A latch after its EVENT frame's attempt has ended without completion: the later part is merged (R178). -/
def mergeLater (l : Latch) : Latch :=
  match l.later with
  | some p => { l with count := min 255 (l.count + p.count), later := none }
  | none => l

/-- A disabled latch after a ROOM_STATUS attempt has ended without completion: its count holds everything already (R179). -/
def dropLater (l : Latch) : Latch := { l with later := none }

/-- The later parts are emptied at a collision (R178, R179). -/
def State.foldLater (s : State) (k : ReportKind) : State :=
  match k with
  | .event e => s.setLatch e ((s.link.latches.get e).map mergeLater)
  | .roomStatus => EventKind.all.foldl (fun s' x => s'.setLatch x ((s'.link.latches.get x).map dropLater)) s
  | _ => s

/-- Set an entry's attempt count and clear its requeue mark (R169, R173). -/
def State.setAttempts (s : State) (k : ReportKind) (n : Nat) : State :=
  s.modLink fun l =>
    { l with queue := l.queue.map fun e => if e.kind = k then { e with attempts := n, requeue := false } else e }

/-- The slots of a backoff drawn at an attempt count (R169): uniform over 0..2^m - 1, m the lesser of the count and 4. The draw
is free (assumption log, entry 3). -/
def backoffSlots (draw count : Nat) : Nat := draw % 2 ^ min count 4

/-- Draw a backoff. -/
def State.drawBackoff (s : State) (count : Nat) : State :=
  (s.modLink fun l => { l with backoff := some (backoffSlots (Config.backoffDraw s.draws) count) }).countDraw

/-- The event number that TX_ABANDONED names, 0 for a kind that is no EVENT (R171, R190). -/
def ReportKind.eventNumber : ReportKind → Nat
  | .event k => k.number
  | _ => 0

/-- The fate of an abandoned entry (R171): removed, with a refill, or kept with its count set back. -/
def State.settleAbandoned (s : State) (k : ReportKind) : State :=
  match k with
  | .demand => (s.dropEntry .demand).refill
  | .roomStatus => (s.dropEntry .roomStatus).refill
  | .pairState => (s.dropEntry .pairState).refill
  | .event e => s.setAttempts (.event e) 0
  | .pairCtrl => s.setAttempts .pairCtrl 0
  | .identity => s.setAttempts .identity 0

/-- An abandonment (R171): TX_ABANDONED, the entry's fate, the 2 s long pause. The attempt has ended, so in a full queue TX_ABANDONED
may evict the abandoned entry (DEDUCED: assumption log, entry 15). -/
def State.abandon (s : State) (a : Attempt) : State :=
  ((s.latchEvent (.txAbandoned (a.kind.code a.msg) a.kind.eventNumber)).settleAbandoned a.kind).modLink fun l =>
    { l with longPause := some (s.now + secs 2) }

/-- The count an attempt's collision reaches. -/
def Attempt.collided (a : Attempt) : Nat := a.attempts + 1

/-- A collision of the attempt of a queued entry (R169). -/
def State.collideEntry (s : State) (a : Attempt) : State :=
  let s1 := (s.endAttempt.foldLater a.kind).setAttempts a.kind a.collided
  if 8 ≤ a.collided then s1.abandon a else s1.drawBackoff a.collided

/-- What the receive path has gathered while this node was sending is discarded without event (R164). -/
def State.dropGathered (s : State) : State := s.modLink fun l => { l with receiver := none }

/-- A collision (R169). The attempt of a removed entry draws its backoff and leaves nothing to abandon (assumption log,
entry 14). -/
def State.collide (s : State) : State :=
  match s.link.attempt with
  | none => s
  | some a =>
    if a.orphan then s.dropGathered.endAttempt.drawBackoff a.collided else s.dropGathered.collideEntry a

/-- The backoff has passed (R169). -/
def State.endBackoff (s : State) : State := s.modLink fun l => { l with backoff := none }

/-- The long pause ends (R171). -/
def State.endPause (s : State) : State := s.modLink fun l => { l with longPause := none }

/-! ## Periodic reports (R93, R180) -/

/-- The status period timer expires: restarted, ROOM_STATUS queued (R180). -/
def State.statusPeriod (s : State) : State := s.restartStatus.queueReport .roomStatus

/-- The demand period timer expires: restarted, DEMAND queued (R93). -/
def State.demandPeriod (s : State) : State := s.restartDemand.queueReport .demand

/-- A QUERY that matches queues IDENTITY (R180). -/
def State.answerQuery (s : State) (address room : Nat) : State :=
  if address = s.cfg.station ∨ address = 127 ∨ room = s.cfg.room then s.queueReport .identity else s

end Sys2Proof.Machine
end

