-- ==== Sys2Proof/Machine/Receive.lean ====
section
/-! DEFINITION. The receive path and the Peer Table (sections 9.1 and 9.2), and what the Air Share Engine does with its two
frames. -/

namespace Sys2Proof.Machine

/-! ## The Peer Table (R166, R167) -/

/-- Refresh the record of an address. -/
def refreshPeer (now address : Nat) (ps : List Peer) : List Peer :=
  ps.map fun p => if p.address = address then { p with heardAt := now } else p

/-- Put a new record in; the list is kept by rising address, though the table has no order. -/
def insertPeer (p : Peer) : List Peer → List Peer
  | [] => [p]
  | x :: xs => if p.address < x.address then p :: x :: xs else x :: insertPeer p xs

/-- The seconds since a record's station was last heard (R167). -/
def State.silence (s : State) (p : Peer) : Nat := s.ageOf p.heardAt

/-- Of two records to evict, the one silent for longer, and of equal silence the one of the lower address. -/
def State.longerSilent (s : State) (best : Option Peer) (p : Peer) : Option Peer :=
  match best with
  | none => some p
  | some q =>
    if s.silence q < s.silence p ∨ (s.silence p = s.silence q ∧ p.address < q.address) then some p else some q

/-- The record to evict from a full table (R166): of those silent for more than 3 × T_d seconds. -/
def State.evictee (s : State) : Option Peer :=
  (s.peers.filter (fun p => 3 * s.cfg.demandPeriod < s.silence p)).foldl s.longerSilent none

/-- A record for a station not yet held (R166). -/
def State.newPeer (s : State) (address : Nat) : Peer := ⟨address, s.now, none, none⟩

/-- The record that a frame of this station evicts from the Peer Table (R166): none where its own record is held or the table
has room. -/
def State.evictedBy (s : State) (address : Nat) : Option Peer :=
  if s.peers.any (fun p => p.address = address) ∨ s.peers.length < 48 then none else s.evictee

/-- A frame of this station takes the partner's M_max with the partner's record (R166), so that M_partner falls back (R74). -/
def State.losesPartnerMax (s : State) (address : Nat) : Bool :=
  (s.evictedBy address).any (fun v => v.address = s.cfg.partner)

/-- The Peer Table once the source of a received frame is recorded in it (R166). -/
def State.peersAfter (s : State) (address : Nat) : List Peer :=
  if s.peers.any (fun p => p.address = address) then refreshPeer s.now address s.peers
  else if s.peers.length < 48 then insertPeer (s.newPeer address) s.peers
  else
    match s.evictee with
    | some v => insertPeer (s.newPeer address) (s.peers.filter (fun p => p.address ≠ v.address))
    | none => s.peers

/-- Record the source of a received frame (R166). Where the partner's record is evicted its M_max changes for the Air Share
Engine, which evaluates the own record (R71; assumption log, entry 28). -/
def State.recordPeer (s : State) (address : Nat) : State :=
  let s1 := s.withPeers (s.peersAfter address)
  if s.losesPartnerMax address then s1.evaluate else s1

/-! ## A received frame (R164, R165) -/

/-- The frame is discarded before anything is recorded (R164). -/
def State.discards (s : State) (f : Frame) : Bool :=
  f.overlapsOwn || f.src.toNat = s.cfg.station || f.src.toNat = 0 || 126 < f.src.toNat

/-- A frame's class against its kind's requirement (R165). `act` is what the owning block does. -/
def State.dispatch (s : State) (kind required : Nat) (f : Frame) (act : State → State) : State :=
  if required < f.cls.toNat then s.latchEvent (.overrideRefused f.src.toNat (.frame kind) .privilege) else act s

/-- A frame that has passed R163, while the receive path runs: recorded and dispatched, or discarded by R164. -/
def State.receive (s : State) (kind required : Nat) (f : Frame) (act : State → State) : State :=
  s.whileRunning fun x => if x.discards f then x else (x.recordPeer f.src.toNat).dispatch kind required f act

/-! ## Gathering a frame from the line (R163) -/

/-- The bytes are a complete frame. -/
def frameComplete (bytes : List Byte) : Bool := 5 ≤ bytes.length && byteAt bytes 2 + 5 ≤ bytes.length

/-- The bytes gathered after a delimiter end their frame: all that the length field calls for have come, or the length field
itself is above 24. -/
def frameEnds (bytes : List Byte) : Bool := frameComplete bytes || (3 ≤ bytes.length && 24 < byteAt bytes 2)

/-- Hold what the receive path has gathered; none while it hunts for a delimiter. -/
def State.setReceiver (s : State) (g : Option Gathering) : State := s.modLink fun l => { l with receiver := g }

/-- The frame ends: the receive path hunts again, and the frame's command waits to be taken (R163, R165). -/
def State.endFrame (s : State) (g : Gathering) : State :=
  { s.setReceiver none with pending := s.pending ++ [frameCommand g.bytes g.badStop false] }

/-- One byte more of an open frame, which may end it. -/
def State.gatherByte (s : State) (g : Gathering) (b : LineByte) : State :=
  let g' : Gathering := ⟨g.bytes ++ [b.value], g.badStop || b.badStop⟩
  if frameEnds g'.bytes then s.endFrame g' else s.setReceiver (some g')

/-- A byte while the receive path hunts: the delimiter opens a frame, any other byte is ignored without event. R163 speaks of an idle
line; a delimiter opens a frame also in the remainder of a cut one (DEDUCED: assumption log, entry 32). -/
def State.huntByte (s : State) (b : LineByte) : State :=
  if b.value = 0x96#8 then s.setReceiver (some ⟨[], b.badStop⟩) else s

/-- The receive path hears a byte on the line (R163). -/
def State.takeByte (s : State) (b : LineByte) : State :=
  match s.link.receiver with
  | none => s.huntByte b
  | some g => s.gatherByte g b

/-- A byte on the line: heard while the blocks run, lost otherwise (R181, R186). -/
def State.hearByte (s : State) (b : LineByte) : State := s.whileRunning fun x => x.takeByte b

/-! ## Discarded frames (R163) -/

/-- LINK_FAULT with its type and the source byte as received, or 0 without one. -/
def State.linkFaultFor (s : State) (fault : LinkFault) (bytes : List Byte) : State :=
  s.latchEvent (.linkFault fault (byteAt bytes 0))

/-- A completed frame fails the first of the checks. -/
def State.discardFrame (s : State) (bytes : List Byte) (badStop : Bool) : State :=
  match frameFault bytes badStop with
  | some fault => s.linkFaultFor fault bytes
  | none => s

/-- A frame ended by the idle line is discarded: FRAMING if a stop bit was low, else LENGTH. -/
def State.dropShort (s : State) (g : Gathering) : State :=
  s.linkFaultFor (if g.badStop then .framing else .length) g.bytes

/-- The line stands idle inside an open frame: the one that the receive path gathers, which then hunts again, or, while it hunts,
the one handed over, unless that is complete (assumption log, entry 11). -/
def State.timeoutFrame (s : State) (handed : Gathering) : State :=
  match s.link.receiver with
  | some g => (s.setReceiver none).dropShort g
  | none => if frameComplete handed.bytes then s else s.dropShort handed

/-! ## Frames of the Wing Clock and the Air Share Engine -/

/-- A TIME frame (R2): a minute of day above 1439 or a second above 59 is ignored. -/
def State.takeTime (s : State) (f : TimeFields) : State :=
  if 1439 < f.minuteOfDay ∨ 59 < f.second then s else s.setTime (f.day * 1440 + f.minuteOfDay) f.second

/-- The capacity a CAPACITY frame gives (R79): 0 when the supply is stopped, clamped to 20000. -/
def capacityOf (f : CapacityFields) : Nat := if f.running then min 20000 f.capacity else 0

/-- A CAPACITY frame (R79). -/
def State.takeCapacity (s : State) (f : CapacityFields) : State :=
  if f.riser = s.cfg.riser then
    (s.modAir fun a =>
      { a with
        capacityKnown := true
        capacity := capacityOf f
        supplyRunning := f.running
        capacityDue := some (s.now + secs 120) }).recompute
  else s

/-- Capacity becomes unknown (R80). -/
def State.loseCapacity (s : State) : State :=
  (s.modAir fun a => { a with capacityKnown := false, capacityDue := none }).recompute

/-- The demand part that a DEMAND frame writes (R167). -/
def State.demandPartOf (s : State) (f : DemandFields) : DemandPart := ⟨f.riser, f.demand, f.floor, f.airClass, s.now⟩

/-- A DEMAND frame: its part is written, and the grant recomputed (R167, R87). -/
def State.takeDemand (s : State) (source : Nat) (f : DemandFields) : State :=
  (s.withPeers (s.peers.map fun p =>
    if p.address = source then { p with demandPart := some (s.demandPartOf f) } else p)).recompute

/-- A demand part that the last view held has aged above 3 × T_d (R82), or left the table with its record: an eviction takes
records silent for longer than that alone (R166), so such a part is at least as old. -/
def State.viewIsStale (s : State) : Bool :=
  s.air.view.any fun a =>
    match (s.peerOf a).bind (·.demandPart) with
    | some p => 3 * s.cfg.demandPeriod < s.ageOf p.writtenAt
    | none => true

/-- The once-a-second check of the view (R82). -/
def State.checkView (s : State) : State := if s.viewIsStale then s.recompute else s

/-- The pinch timer expires (R91): AIR_SHORT with the own demand and grant, and the timer stays expired. -/
def State.pinchExpired (s : State) : State :=
  (s.modAir fun a => { a with pinchTimer := .expired }).latchEvent (.airShort s.air.demand s.air.grant)

/-- The due time of the pinch timer while it runs. -/
def State.pinchDue (s : State) : Option Nat :=
  match s.air.pinchTimer with
  | .running due => some due
  | _ => none

end Sys2Proof.Machine
end

