-- ==== Sys2Proof/Machine/ConfigImage.lean ====
section
/-! DEFINITION. The configuration image (R184, section 10.3, R191): each field checked against its range in the order of its
index, and the record they make. -/

namespace Sys2Proof.Machine

/-- A checked field: the value held, and whether it was clamped. -/
structure Checked (α : Type) where
  value : α
  clamped : Bool
  deriving DecidableEq, Repr

/-- A value clamped to a range of numbers. -/
def clampNat (lo hi x : Nat) : Nat := max lo (min hi x)

/-- A number checked against its range: clamped if it lies outside. -/
def checkRange (lo hi x : Nat) : Checked Nat := ⟨clampNat lo hi x, x < lo || hi < x⟩

/-- A numeric field with a default: an erased field takes the default and counts as in range. -/
def checkField (lo hi default erased x : Nat) : Checked Nat :=
  if x = erased then ⟨default, false⟩ else checkRange lo hi x

/-- A 1-byte field with a default. -/
def field8 (image : List Byte) (addr lo hi default : Nat) : Checked Nat :=
  checkField lo hi default 255 (byteAt image addr)

/-- A 2-byte field with a default. -/
def field16 (image : List Byte) (addr lo hi default : Nat) : Checked Nat :=
  checkField lo hi default 65535 (u16 image addr)

/-- A coded field: erased it takes its default, undefined it takes its default and counts as clamped. -/
def checkCode {α : Type} (default : α) (byte : Nat) (decoded : Option α) : Checked α :=
  if byte = 255 then ⟨default, false⟩
  else
    match decoded with
    | some v => ⟨v, false⟩
    | none => ⟨default, true⟩

/-- The station address: one outside 1..126 becomes 126. It has no default. -/
def checkStation (x : Nat) : Checked Nat := if 1 ≤ x ∧ x ≤ 126 then ⟨x, false⟩ else ⟨126, true⟩

/-- The screen-side flag's codes. -/
def decodeFlag : Nat → Option Bool
  | 0 => some false
  | 1 => some true
  | _ => none

/-- The event byte: bit 7 disabled, bits 2..0 priority, bits 6..3 zero. -/
def decodeEventByte (b : Byte) : Option EventConfig :=
  if b &&& 0x78#8 = 0 then some ⟨!b.getLsbD 7, b.toNat % 8⟩ else none

/-- The three fields of a bank, at its address. -/
structure BankFields where
  travel : Checked Nat
  glarePos : Checked Nat
  screenSide : Checked Bool
  deriving DecidableEq, Repr

/-- The fields of a bank. -/
def bankFields (image : List Byte) (b : Bank) : BankFields :=
  let a := 31 + 3 * (b.number - 1)
  { travel := field8 image a 20 180 60
    glarePos := field8 image (a + 1) 40 100 70
    screenSide := checkCode false (byteAt image (a + 2)) (decodeFlag (byteAt image (a + 2))) }

/-- The configuration of a bank. -/
def BankFields.config (f : BankFields) : BankConfig := ⟨f.travel.value, f.glarePos.value, f.screenSide.value⟩

/-- The three fields of a scene, at its address. -/
structure SceneFields where
  front : Checked Nat
  rest : Checked Nat
  policy : Checked BlindPolicy
  deriving DecidableEq, Repr

/-- The fields of scene n, 1..7. -/
def sceneFields (image : List Byte) (n : Nat) : SceneFields :=
  let a := 40 + 5 * n
  { front := field16 image a 0 1000 800
    rest := field16 image (a + 2) 0 1000 500
    policy := checkCode .followGlare (byteAt image (a + 4)) (BlindPolicy.ofCode (byteAt image (a + 4))) }

/-- The configured scene. -/
def SceneFields.scene (f : SceneFields) : Scene := ⟨f.front.value, f.rest.value, f.policy.value⟩

/-- The field of an event kind. -/
def eventField (image : List Byte) (k : EventKind) : Checked EventConfig :=
  checkCode (EventConfig.defaults.get k) (byteAt image (79 + k.number)) (decodeEventByte (image.getD (79 + k.number) 0))

/-- The fields of index 1 to 20, each checked. -/
structure HeadFields where
  station : Checked Nat
  room : Checked Nat
  pairRoom : Checked Nat
  partner : Checked Nat
  riser : Checked Nat
  mMax : Checked Nat
  areaRate : Checked Nat
  personRate : Checked Nat
  vacFloor : Checked Nat
  co2Setpoint : Checked Nat
  co2Gain : Checked Nat
  isolated : Checked Nat
  demandPeriod : Checked Nat
  boostCeiling : Checked Nat
  vacancyHold : Checked Nat
  overrunLimit : Checked Nat
  statusPeriod : Checked Nat
  loopGain : Checked Nat
  glareThreshold : Checked Nat
  hysteresis : Checked Nat
  deriving DecidableEq, Repr

/-- The fields of index 1 to 20: F_vac, I and the boost ceiling against the checked M_max, h against the checked H. An
erased field takes its default, also where M_max lies below it; h's default lies in its range for every H. -/
def headFields (image : List Byte) : HeadFields :=
  let mMax := field16 image 7 50 2000 600
  let glare := field16 image 27 150 800 350
  { station := checkStation (byteAt image 0)
    room := checkRange 0 65535 (u16 image 1)
    pairRoom := field16 image 3 0 65535 0
    partner := field8 image 5 0 126 0
    riser := checkRange 1 15 (byteAt image 6)
    mMax := mMax
    areaRate := field16 image 9 0 1000 40
    personRate := field8 image 11 4 20 10
    vacFloor := field16 image 12 0 mMax.value 60
    co2Setpoint := field16 image 14 600 1500 1000
    co2Gain := field8 image 16 0 100 20
    isolated := field16 image 17 0 mMax.value 300
    demandPeriod := field8 image 19 10 60 20
    boostCeiling := field16 image 20 0 mMax.value 100
    vacancyHold := field8 image 22 5 30 10
    overrunLimit := field8 image 23 30 240 60
    statusPeriod := field16 image 24 30 300 60
    loopGain := field8 image 26 1 64 16
    glareThreshold := glare
    hysteresis := field16 image 29 20 (min 300 (glare.value - 10)) 80 }

/-- Which of the fields of index 1 to 20 are clamped, in order. -/
def HeadFields.clamps (h : HeadFields) : List Bool :=
  [h.station.clamped, h.room.clamped, h.pairRoom.clamped, h.partner.clamped, h.riser.clamped, h.mMax.clamped,
    h.areaRate.clamped, h.personRate.clamped, h.vacFloor.clamped, h.co2Setpoint.clamped, h.co2Gain.clamped,
    h.isolated.clamped, h.demandPeriod.clamped, h.boostCeiling.clamped, h.vacancyHold.clamped, h.overrunLimit.clamped,
    h.statusPeriod.clamped, h.loopGain.clamped, h.glareThreshold.clamped, h.hysteresis.clamped]

/-- Which of a bank's fields are clamped, in order. -/
def BankFields.clamps (f : BankFields) : List Bool := [f.travel.clamped, f.glarePos.clamped, f.screenSide.clamped]

/-- Which of a scene's fields are clamped, in order. -/
def SceneFields.clamps (f : SceneFields) : List Bool := [f.front.clamped, f.rest.clamped, f.policy.clamped]

/-- The numbers of the scenes that are read; scene 0 is not (R95). -/
def sceneNumbers : List Nat := [1, 2, 3, 4, 5, 6, 7]

/-- Whether each field is clamped, in the order of the index from 1 to 69; the place of scene 0 (30 to 32) never is. -/
def imageClamps (image : List Byte) : List Bool :=
  (headFields image).clamps
    ++ (Bank.all.map (fun b => (bankFields image b).clamps)).flatten
    ++ [false, false, false]
    ++ (sceneNumbers.map (fun n => (sceneFields image n).clamps)).flatten
    ++ EventKind.all.map (fun k => (eventField image k).clamped)

/-- The index of the first clamped field, counted from `n`. -/
def firstClamp (n : Nat) : List Bool → Option Nat
  | [] => none
  | c :: cs => if c then some n else firstClamp (n + 1) cs

/-- The record of an image. -/
def recordFrom (image : List Byte) : ConfigRecord :=
  let h := headFields image
  { station := h.station.value
    room := h.room.value
    pairRoom := h.pairRoom.value
    partner := h.partner.value
    riser := h.riser.value
    mMax := h.mMax.value
    areaRate := h.areaRate.value
    personRate := h.personRate.value
    vacFloor := h.vacFloor.value
    co2Setpoint := h.co2Setpoint.value
    co2Gain := h.co2Gain.value
    isolated := h.isolated.value
    demandPeriod := h.demandPeriod.value
    boostCeiling := h.boostCeiling.value
    vacancyHold := h.vacancyHold.value
    overrunLimit := h.overrunLimit.value
    statusPeriod := h.statusPeriod.value
    loopGain := h.loopGain.value
    glareThreshold := h.glareThreshold.value
    hysteresis := h.hysteresis.value
    banks := ⟨(bankFields image .bank1).config, (bankFields image .bank2).config, (bankFields image .bank3).config⟩
    scenes := sceneNumbers.map (fun n => (sceneFields image n).scene)
    events :=
      { sessionBegin := (eventField image .sessionBegin).value
        sessionEnd := (eventField image .sessionEnd).value
        release := (eventField image .release).value
        overrun := (eventField image .overrun).value
        adhoc := (eventField image .adhoc).value
        airShort := (eventField image .airShort).value
        sensorFault := (eventField image .sensorFault).value
        blindFault := (eventField image .blindFault).value
        ttRefused := (eventField image .ttRefused).value
        ttDone := (eventField image .ttDone).value
        partitionMismatch := (eventField image .partitionMismatch).value
        partnerLost := (eventField image .partnerLost).value
        overrideRefused := (eventField image .overrideRefused).value
        linkFault := (eventField image .linkFault).value
        txAbandoned := (eventField image .txAbandoned).value
        configClamped := (eventField image .configClamped).value } }

/-- What the loader holds after an image's checks (R184). -/
def loaderFrom (image : List Byte) : Loader :=
  { record := recordFrom image
    clampedAtStart := (firstClamp 1 (imageClamps image)).isSome
    firstClamped := firstClamp 1 (imageClamps image) }

end Sys2Proof.Machine
end

