-- ==== Sys2Proof/Machine/StartUp.lean ====
section
/-! DEFINITION. Start-up (chapter 10): reset, the read and its attempts, CONFIG_FAULT, the beginning of running, and the soft
restart. -/

namespace Sys2Proof.Machine

/-! ## Power-on values -/

/-- Every block holds its power-on values. -/
def State.powerOnBlocks (s : State) : State :=
  { s with
    link := Link.powerOn
    peers := []
    clock := Clock.powerOn s.now
    sessions := Sessions.powerOn
    evidence := Evidence.powerOn
    room := Room.powerOn
    air := Air.powerOn
    light := Light.powerOn
    shade := Shade.powerOn
    drive := Drive.powerOn
    pair := Pair.powerOn
    overrides := Overrides.powerOn }

/-- NRST is asserted: whatever the node was doing ends, and the outputs stand at their reset levels (R182). -/
def State.assertReset (s : State) : State :=
  (s.powerOnBlocks.modOut fun _ => Outputs.inReset).withPhase .inReset

/-- NRST is negated: the first attempt of a power-on read begins (R182). -/
def State.releaseReset (s : State) : State :=
  match s.phase with
  | .inReset => s.withPhase (.reading .powerOn 1 s.now)
  | _ => s

/-! ## CONFIG_FAULT (R183) -/

/-- The fixed outputs of CONFIG_FAULT for a level of the FIRE input; the select lines stand. -/
def State.faultOutputs (s : State) : State :=
  s.modOut fun o =>
    { o with
      dim1 := if s.pins.fire then 1000 else 500
      dim2 := if s.pins.fire then 1000 else 500
      dmp := if s.pins.fire then 0 else 250
      motorUp := false
      motorDown := false }

/-- CONFIG_FAULT is entered: every block stops and its state is not kept, the outputs are fixed, the retry timer starts. -/
def State.enterConfigFault (s : State) : State :=
  (s.powerOnBlocks.faultOutputs).withPhase (.configFault (s.now + secs 60))

/-- The outputs are the fixed ones of CONFIG_FAULT: in it, and while a retry reads. -/
def NodePhase.holdsFault : NodePhase → Bool
  | .configFault _ => true
  | .reading .retry _ _ => true
  | _ => false

/-- A read attempt fails (R182): the next follows 10 ms later, and after the third the node enters CONFIG_FAULT. -/
def State.failAttempt (s : State) (cause : ReadCause) (attempt beginsAt : Nat) : State :=
  let s1 := s.advanceTo beginsAt
  if attempt < 3 then s1.withPhase (.reading cause (attempt + 1) (s1.now + 10)) else s1.enterConfigFault

/-- The retry timer expires: a new read begins (R183). -/
def State.beginRetry (s : State) (due : Nat) : State :=
  let s1 := s.advanceTo due
  s1.withPhase (.reading .retry 1 s1.now)

/-! ## Beginning to run (R185) -/

/-- A beam's stuck timer at the beginning of running (R26): started if it then reads broken. -/
def State.stuckAtStart (s : State) (b : Beam) : Option Nat := if s.pins.broken.get b then some (s.now + secs 60) else none

/-- Step 6 of R185: the timers of each block are started. -/
def State.startTimers (s : State) : State :=
  let s1 := s.modEvidence fun e =>
    { e with
      stuckDue := ⟨s.stuckAtStart .outer, s.stuckAtStart .inner⟩
      co2Due := s.now + secs 10
      photo := { e.photo with sampleDue := s.now + secs 2 }
      irrad := { e.irrad with sampleDue := s.now + secs 10 } }
  let s2 := s1.modPair fun p => { p with debounceDue := if s.pins.partOpen then some (s.now + secs 5) else none }
  s2.restartStatus.restartDemand.modLink fun l => { l with runningSince := s.now }

/-- The life-safety mode as it is formed when running begins (R147). -/
def State.modeAtStart (s : State) : State := s.setMode (formedMode s.overrides.frameMode s.pins.fire)

/-- Step 1 of R185: CONFIG_CLAMPED, with the index of the first clamped field, if one was clamped. -/
def State.reportClamp (s : State) : State :=
  match s.loader.firstClamped with
  | some i => s.latchEvent (.configClamped i)
  | none => s

/-- Step 3 of R185: the first evaluation and recomputation, the damper, and DEMAND. -/
def State.startAir (s : State) : State := s.evaluateAtStart.safetyDamper.queueReport .demand

/-- The node begins running: the steps of R185 in their order. -/
def State.beginRunning (s : State) : State :=
  let s1 := (s.withPhase .running).modOut fun o => { o with selected := .bank1 }
  let s2 := s1.modeAtStart.reportClamp.queueReport .identity
  let s3 := s2.startAir.queueReport .roomStatus
  s3.relight.decideAnew.handCarried.startTimers

/-- A power-on start, or a successful retry, begins to run from power-on values (R183, R185). -/
def State.startFresh (s : State) : State :=
  (s.powerOnBlocks.modOut fun o => { o with motorUp := false, motorDown := false }).beginRunning

/-! ## Soft restart (R186) -/

/-- The Wing Link Controller's part of a soft restart (R181): a frame being gathered is discarded without event too. -/
def Link.stopped (l : Link) : Link :=
  { l with
    receiver := none
    attempt := none
    backoff := none
    longPause := none
    queue := []
    latches := Link.powerOn.latches }

/-- Step 1 of R186: the link and the drive stop; the dimming and damper outputs keep their values; the waiting indicator is
dropped. -/
def State.stopForRestart (s : State) : State :=
  (((s.modLink Link.stopped).withPeers []).driveStop).modOverrides fun o => { o with indicatorWaiting := none }

/-- An accepted RESTART (R161, R186): step 1, and the read of step 2 begins. -/
def State.softRestart (s : State) : State := s.stopForRestart.withPhase (.reading .softRestart 1 s.now)

/-- Step 3 of R186 for the Evidence Unit, the Pair Unit, the Shade Policy, the Override Table and the Air Share Engine. -/
def State.resetForRestart (s : State) : State :=
  let s1 := { s with evidence := Evidence.powerOn, pair := Pair.powerOn, shade := Shade.powerOn, air := Air.powerOn }
  let s2 := s1.modOverrides fun o => { o with records := ⟨none, none, none, none, none⟩, hold := false }
  s2.modRoom fun r => { r with mirroredId := none, switchMarker := false }

/-- The Session Table at a soft restart: ended records leave while the clock is valid, and the marks are set afresh (R8). -/
def State.sessionsForRestart (s : State) : State :=
  (if s.clock.timeValid then s.dropEnded else s).markAllAfresh

/-- Steps 3 to 5 of R186: TT_DONE with RESTART first, the blocks reset, the state derived, and running begun. -/
def State.startAgain (s : State) : State :=
  ((s.closeTransfer .restart).resetForRestart.sessionsForRestart.derive).beginRunning

/-! ## The end of a read (R184) -/

/-- A read attempt completes: the record is held, and the node begins to run as the cause of the read asks. -/
def State.finishRead (s : State) (cause : ReadCause) (beginsAt : Nat) (image : List Byte) : State :=
  let s1 := { s.advanceTo beginsAt with loader := loaderFrom image }
  match cause with
  | .softRestart => s1.startAgain
  | .powerOn => s1.startFresh
  | .retry => s1.startFresh

/-! ## Minutes and inputs while the blocks do not run -/

/-- The Wing Clock's own advance while a soft restart reads the image: it keeps its time, and the points that it passes are
settled when the marks are set afresh (R1, R186; assumption log, entry 18). -/
def State.passMinute (s : State) : State :=
  s.setMinute (if s.clock.minute < maxMinute then s.clock.minute + 1 else 0)

/-- The oscillator stands at the minute boundary, and the next boundary lies one minute after it (R1). -/
def State.atBoundary (s : State) : State :=
  let s1 := s.advanceTo s.clock.boundaryDue
  s1.modClock fun c => { c with boundaryDue := c.boundaryDue + 60000 }

/-- The seconds pass 59 (R1). -/
def State.minutePasses (s : State) : State :=
  match s.phase with
  | .running => s.atBoundary.advanceMinute
  | .reading .softRestart _ _ => s.atBoundary.passMinute
  | _ => s

/-- The FIRE input changes (R158, R183). -/
def State.fireTo (s : State) (asserted : Bool) : State :=
  let s1 := s.modPins fun p => { p with fire := asserted }
  if s1.isRunning then s1.formMode else if s1.phase.holdsFault then s1.faultOutputs else s1

end Sys2Proof.Machine
end

