-- ==== Sys2Proof/Machine/AirCommands.lean ====
section
/-! DEFINITION. The meanings of the commands of the Air Share Engine (chapter 4). -/

namespace Sys2Proof.Machine

/-- CAPACITY (R79). -/
def execCapacity (f : Frame) (s : State) : Host.Outcome State Fault Refusal :=
  .next (s.receive 0x08 2 f fun x =>
    match decodeCapacity f.payload with
    | some c => x.takeCapacity c
    | none => x)

/-- DEMAND (R167, R87). -/
def execDemand (f : Frame) (s : State) : Host.Outcome State Fault Refusal :=
  .next (s.receive 0x09 3 f fun x =>
    match decodeDemand f.payload with
    | some d => x.takeDemand f.src.toNat d
    | none => x)

/-- CAPACITY_TIMER_EXPIRY (R80). -/
def execCapacityTimerExpiry (s : State) : Host.Outcome State Fault Refusal :=
  .next (s.whileRunning fun x => x.onExpiry x.air.capacityDue State.loseCapacity)

/-- VIEW_AGE_CHECK (R82). -/
def execViewAgeCheck (s : State) : Host.Outcome State Fault Refusal :=
  .next (s.whileRunning State.checkView)

/-- PINCH_TIMER_EXPIRY (R91). -/
def execPinchTimerExpiry (s : State) : Host.Outcome State Fault Refusal :=
  .next (s.whileRunning fun x => x.onExpiry x.pinchDue State.pinchExpired)

/-- DEMAND_PERIOD_EXPIRY (R93). -/
def execDemandPeriodExpiry (s : State) : Host.Outcome State Fault Refusal :=
  .next (s.whileRunning fun x => (x.advanceTo x.air.demandDue).demandPeriod)

end Sys2Proof.Machine
end

