-- ==== Sys2Proof/Machine/BlindCommands.lean ====
section
/-! DEFINITION. The meanings of the commands of the Blind Drive (chapter 6). -/

namespace Sys2Proof.Machine

/-- MOVE_COMPLETION (R117): no effect without a TRAVEL move in flight. -/
def execMoveCompletion (s : State) : Host.Outcome State Fault Refusal :=
  .next (s.whileRunning State.travelDone)

/-- HOMING_END (R124): no effect without a homing in flight. -/
def execHomingEnd (s : State) : Host.Outcome State Fault Refusal :=
  .next (s.whileRunning State.homingDone)

/-- TRIP (R119): no effect but on the level of BTRIP without a move in flight. -/
def execTrip (held : Bool) (s : State) : Host.Outcome State Fault Refusal :=
  .next ((s.modPins fun p => { p with btrip := held }).whileRunning State.tripNow)

end Sys2Proof.Machine
end

