-- ==== Sys2Proof/Machine/EvidenceCommands.lean ====
section
/-! DEFINITION. The meanings of the commands of the Evidence Unit (chapter 2) and of the clear-dwell timer (R104). -/

namespace Sys2Proof.Machine

/-- PIR_PULSE (R31): a MOTION evidence event. -/
def execPirPulse (s : State) : Host.Outcome State Fault Refusal :=
  .next (s.whileRunning fun x => x.evidenceEvent .motion)

/-- BEAM_BREAK (R26, R27): no effect on a beam that already reads broken. -/
def execBeamBreak (b : Beam) (s : State) : Host.Outcome State Fault Refusal :=
  .next (if s.pins.broken.get b then s
    else (s.setBeam b true).whileRunning fun x => (x.setStuckDue b (some (x.now + secs 60))).takeBreak b)

/-- BEAM_RELEASE (R26, R30): no effect on a beam that already reads clear. -/
def execBeamRelease (b : Beam) (s : State) : Host.Outcome State Fault Refusal :=
  .next (if s.pins.broken.get b then (s.setBeam b false).whileRunning fun x => x.releaseBeam b else s)

/-- WINDOW_EXPIRY (R28): the opening break becomes an unpaired break, dated at the expiry. -/
def execWindowExpiry (s : State) : Host.Outcome State Fault Refusal :=
  .next (s.whileRunning fun x =>
    x.onExpiry (x.evidence.window.map (·.openedAt + 1500)) fun y => (y.setWindow none).evidenceEvent .unpaired)

/-- STUCK_TIMER_EXPIRY (R30). -/
def execStuckTimerExpiry (b : Beam) (s : State) : Host.Outcome State Fault Refusal :=
  .next (s.whileRunning fun x => x.onExpiry (x.evidence.stuckDue.get b) fun y => y.markStuck b)

/-- VACANCY_HOLD_EXPIRY (R34). -/
def execVacancyHoldExpiry (s : State) : Host.Outcome State Fault Refusal :=
  .next (s.whileRunning fun x => x.onExpiry x.holdDue State.passHold)

/-- TRIPLE_HOLD_EXPIRY (R34). -/
def execTripleHoldExpiry (s : State) : Host.Outcome State Fault Refusal :=
  .next (s.whileRunning fun x => x.onExpiry x.tripleDue State.passTriple)

/-- CO2_SAMPLE (R38, R39). -/
def execCo2Sample (counts : BitVec 10) (s : State) : Host.Outcome State Fault Refusal :=
  .next (s.whileRunning fun x => (x.advanceTo x.evidence.co2Due).takeCo2 counts.toNat)

/-- PHOTOCELL_SAMPLE (R38, R40, R41, R100). -/
def execPhotocellSample (counts : BitVec 10) (s : State) : Host.Outcome State Fault Refusal :=
  .next (s.whileRunning fun x => (x.advanceTo x.evidence.photo.sampleDue).takePhoto counts.toNat)

/-- IRRADIANCE_SAMPLE (R38, R40, R41, R104). -/
def execIrradianceSample (counts : BitVec 10) (s : State) : Host.Outcome State Fault Refusal :=
  .next (s.whileRunning fun x => (x.advanceTo x.evidence.irrad.sampleDue).takeIrradiance counts.toNat)

/-- CLEAR_DWELL_EXPIRY (R104). -/
def execClearDwellExpiry (s : State) : Host.Outcome State Fault Refusal :=
  .next (s.whileRunning fun x => x.onExpiry x.shade.dwellDue State.clearGlare)

end Sys2Proof.Machine
end

