-- ==== Sys2Proof/Machine/LinkCommands.lean ====
section
/-! DEFINITION. The meanings of the commands of the Wing Link Controller (chapter 9). -/

namespace Sys2Proof.Machine

/-- QUERY (R180). -/
def execQuery (f : Frame) (s : State) : Host.Outcome State Fault Refusal :=
  .next (s.receive 0x20 3 f fun x =>
    match decodeQuery f.payload with
    | some (address, room) => x.answerQuery address room
    | none => x)

/-- OTHER_FRAME (R165): the source is recorded, and the frame has no other effect. -/
def execOtherFrame (kind : BitVec 6) (f : Frame) (s : State) : Host.Outcome State Fault Refusal :=
  .next (s.receive kind.toNat 3 f fun x => x)

/-- FRAME_DISCARD (R163). -/
def execFrameDiscard (bytes : List Byte) (badStop : Bool) (s : State) : Host.Outcome State Fault Refusal :=
  .next (s.whileRunning fun x => x.discardFrame bytes badStop)

/-- FRAME_IDLE_TIMEOUT (R163). -/
def execFrameIdleTimeout (bytes : List Byte) (badStop : Bool) (s : State) : Host.Outcome State Fault Refusal :=
  .next (s.whileRunning fun x => x.timeoutFrame ⟨bytes, badStop⟩)

/-- STATUS_PERIOD_EXPIRY (R180). -/
def execStatusPeriodExpiry (s : State) : Host.Outcome State Fault Refusal :=
  .next (s.whileRunning fun x => (x.advanceTo x.link.statusDue).statusPeriod)

/-- ATTEMPT_START (R168). -/
def execAttemptStart (s : State) : Host.Outcome State Fault Refusal :=
  .next (s.whileRunning State.startAttempt)

/-- TRANSMIT_COMPLETION (R170). -/
def execTransmitCompletion (s : State) : Host.Outcome State Fault Refusal :=
  .next (s.whileRunning State.completeAttempt)

/-- COLLISION (R169, R171). -/
def execCollision (s : State) : Host.Outcome State Fault Refusal :=
  .next (s.whileRunning State.collide)

/-- BACKOFF_END (R169). -/
def execBackoffEnd (s : State) : Host.Outcome State Fault Refusal :=
  .next (s.whileRunning State.endBackoff)

/-- LONG_PAUSE_END (R171). -/
def execLongPauseEnd (s : State) : Host.Outcome State Fault Refusal :=
  .next (s.whileRunning fun x => x.onExpiry x.link.longPause State.endPause)

end Sys2Proof.Machine
end

