-- ==== Sys2Proof/Machine/OverrideCommands.lean ====
section
/-! DEFINITION. The meanings of the commands of the Override Table and its Panel Port (chapter 8). -/

namespace Sys2Proof.Machine

/-- OVERRIDE (R149, R150): a frame whose CLEAR bit is set is the other row (assumption log, entry 20). -/
def execOverride (f : Frame) (s : State) : Host.Outcome State Fault Refusal :=
  .next (s.receive 0x18 2 f fun x =>
    match (decodeOverride f.payload).bind (x.overrideRequest f.src.toNat f.cls.toNat) with
    | some r => if r.clear then x else x.takeRequest r
    | none => x)

/-- OVERRIDE_CLEAR (R149, R151): a frame whose CLEAR bit is clear is the other row (assumption log, entry 20). -/
def execOverrideClear (f : Frame) (s : State) : Host.Outcome State Fault Refusal :=
  .next (s.receive 0x18 2 f fun x =>
    match (decodeOverride f.payload).bind (x.overrideRequest f.src.toNat f.cls.toNat) with
    | some r => if r.clear then x.takeRequest r else x
    | none => x)

/-- STALE_TIMER_EXPIRY (R153). -/
def execStaleTimerExpiry (q : Quantity) (s : State) : Host.Outcome State Fault Refusal :=
  .next (s.whileRunning fun x =>
    x.onExpiry ((x.overrides.records.get q).bind (·.stale)) fun y => y.removeRecord q)

/-- SCENE_KEY (R155). -/
def execSceneKey (n : Fin 8) (s : State) : Host.Outcome State Fault Refusal :=
  .next (s.whileRunning fun x => x.pressKey (State.askScene n))

/-- LIGHT_UP (R155). -/
def execLightUp (s : State) : Host.Outcome State Fault Refusal :=
  .next (s.whileRunning fun x => x.pressKey State.askLightUp)

/-- LIGHT_DOWN (R155). -/
def execLightDown (s : State) : Host.Outcome State Fault Refusal :=
  .next (s.whileRunning fun x => x.pressKey State.askLightDown)

/-- BLINDS_UP (R155): BLINDS with value 0. -/
def execBlindsUp (s : State) : Host.Outcome State Fault Refusal :=
  .next (s.whileRunning fun x => x.pressKey fun y => y.askOwn .blinds 0)

/-- BLINDS_DOWN (R155): BLINDS with value 100. -/
def execBlindsDown (s : State) : Host.Outcome State Fault Refusal :=
  .next (s.whileRunning fun x => x.pressKey fun y => y.askOwn .blinds 100)

/-- BLINDS_STOP (R155). -/
def execBlindsStop (s : State) : Host.Outcome State Fault Refusal :=
  .next (s.whileRunning fun x => x.pressKey State.askBlindsStop)

/-- AIR_BOOST_KEY (R155). -/
def execAirBoostKey (s : State) : Host.Outcome State Fault Refusal :=
  .next (s.whileRunning fun x => x.pressKey State.askAirBoost)

/-- ROOM_OFF (R156). -/
def execRoomOff (s : State) : Host.Outcome State Fault Refusal :=
  .next (s.whileRunning fun x => x.pressKey State.askRoomOff)

/-- PANEL_BYTE_DISCARD (R154): the byte is discarded without event and without reply. -/
def execPanelByteDiscard (_byte : Byte) (_framingError : Bool) (s : State) : Host.Outcome State Fault Refusal :=
  .next s

/-- INDICATOR_SENT (R157). -/
def execIndicatorSent (s : State) : Host.Outcome State Fault Refusal :=
  .next s.indicatorDone

/-- LIFE_SAFETY_EVACUATE (R158): a frame of another mode is another row (assumption log, entry 20). -/
def execLifeSafetyEvacuate (f : Frame) (s : State) : Host.Outcome State Fault Refusal :=
  .next (s.receive 0x1B 0 f fun x =>
    match decodeLifeSafety f.payload with
    | some .evacuate => x.takeSafetyFrame .evacuate
    | _ => x)

/-- LIFE_SAFETY_SMOKE_HOLD (R158): a frame of another mode is another row (assumption log, entry 20). -/
def execLifeSafetySmokeHold (f : Frame) (s : State) : Host.Outcome State Fault Refusal :=
  .next (s.receive 0x1B 0 f fun x =>
    match decodeLifeSafety f.payload with
    | some (.smokeHold p) => x.takeSafetyFrame (.smokeHold p)
    | _ => x)

/-- LIFE_SAFETY_CLEAR (R158): a frame of another mode is another row (assumption log, entry 20). -/
def execLifeSafetyClear (f : Frame) (s : State) : Host.Outcome State Fault Refusal :=
  .next (s.receive 0x1B 0 f fun x =>
    match decodeLifeSafety f.payload with
    | some .off => x.takeSafetyFrame .off
    | _ => x)

/-- FIRE_CHANGE (R158, R183). -/
def execFireChange (asserted : Bool) (s : State) : Host.Outcome State Fault Refusal :=
  .next (s.fireTo asserted)

/-- HOLD_ON (R160): a frame of value OFF is the other row (assumption log, entry 20). -/
def execHoldOn (f : Frame) (s : State) : Host.Outcome State Fault Refusal :=
  .next (s.receive 0x19 1 f fun x =>
    match decodeHold f.payload with
    | some (target, true) => if x.isTarget target then x.holdOnNow else x
    | _ => x)

/-- HOLD_OFF (R160): a frame of value ON is the other row (assumption log, entry 20). -/
def execHoldOff (f : Frame) (s : State) : Host.Outcome State Fault Refusal :=
  .next (s.receive 0x19 1 f fun x =>
    match decodeHold f.payload with
    | some (target, false) => if x.isTarget target then x.holdOffNow else x
    | _ => x)

/-- RESTART (R161, R186). -/
def execRestart (f : Frame) (s : State) : Host.Outcome State Fault Refusal :=
  .next (s.receive 0x1A 1 f fun x =>
    match decodeRestart f.payload with
    | some target => if x.isTarget target then x.softRestart else x
    | none => x)

end Sys2Proof.Machine
end

