-- ==== Sys2Proof/Machine/PairCommands.lean ====
section
/-! DEFINITION. The meanings of the commands of the Pair Unit (chapter 7). -/

namespace Sys2Proof.Machine

/-- PART_CHANGE (R131): each change of the raw input starts the debounce timer afresh. -/
def execPartChange (isOpen : Bool) (s : State) : Host.Outcome State Fault Refusal :=
  .next (if s.pins.partOpen = isOpen then s
    else (s.modPins fun p => { p with partOpen := isOpen }).whileRunning fun x =>
      x.modPair fun p => { p with debounceDue := some (x.now + secs 5) })

/-- DEBOUNCE_EXPIRY (R131, R132, R137). -/
def execDebounceExpiry (s : State) : Host.Outcome State Fault Refusal :=
  .next (s.whileRunning fun x => x.onExpiry x.pair.debounceDue State.settlePartition)

/-- OFFER_RETRY_EXPIRY (R132, R145). -/
def execOfferRetryExpiry (s : State) : Host.Outcome State Fault Refusal :=
  .next (s.whileRunning fun x => x.onExpiry x.pair.offerDue State.offerAgain)

/-- JOIN_OFFER (R133). -/
def execJoinOffer (f : Frame) (s : State) : Host.Outcome State Fault Refusal :=
  .next (s.receive 0x10 3 f fun x =>
    match x.fromPartner f.src.toNat, decodeJoinOffer f.payload with
    | true, some (m, headcount) => (x.writePartnerMax m).takeOffer (min 511 headcount)
    | _, _ => x)

/-- JOIN_ACCEPT (R134). -/
def execJoinAccept (f : Frame) (s : State) : Host.Outcome State Fault Refusal :=
  .next (s.receive 0x11 3 f fun x =>
    match x.fromPartner f.src.toNat, decodeJoinAccept f.payload with
    | true, some m => (x.writePartnerMax m).takeAccept
    | _, _ => x)

/-- JOIN_REFUSE (R135). -/
def execJoinRefuse (f : Frame) (s : State) : Host.Outcome State Fault Refusal :=
  .next (s.receive 0x12 3 f fun x => if x.fromPartner f.src.toNat then x.takeRefuse else x)

/-- JOIN_LEAVE (R138). -/
def execJoinLeave (f : Frame) (s : State) : Host.Outcome State Fault Refusal :=
  .next (s.receive 0x13 3 f fun x => if x.fromPartner f.src.toNat then x.takeLeave else x)

/-- PAIR_STATE (R141, R145). -/
def execPairState (f : Frame) (s : State) : Host.Outcome State Fault Refusal :=
  .next (s.receive 0x14 3 f fun x => if x.fromPartner f.src.toNat then x.takePairState f.payload else x)

/-- PAIR_STATUS_PERIOD_EXPIRY (R139, R140). -/
def execPairStatusPeriodExpiry (s : State) : Host.Outcome State Fault Refusal :=
  .next (s.whileRunning fun x => x.onExpiry x.pair.periodDue State.pairPeriod)

/-- LIVENESS_EXPIRY (R144). -/
def execLivenessExpiry (s : State) : Host.Outcome State Fault Refusal :=
  .next (s.whileRunning fun x => x.onExpiry x.pair.livenessDue State.losePartner)

end Sys2Proof.Machine
end

