-- ==== Sys2Proof/Machine/StartCommands.lean ====
section
/-! DEFINITION. The meanings of the reset, configuration and clock commands (chapters 10 and 1). -/

namespace Sys2Proof.Machine

/-- NRST_ASSERTED (R182). -/
def execNrstAsserted (s : State) : Host.Outcome State Fault Refusal :=
  .next s.assertReset

/-- NRST_NEGATED (R182): the negation that ends a reset. -/
def execNrstNegated (s : State) : Host.Outcome State Fault Refusal :=
  .next s.releaseReset

/-- CONFIG_ATTEMPT_FAILED (R182): no effect where no attempt is in progress. -/
def execConfigAttemptFailed (s : State) : Host.Outcome State Fault Refusal :=
  .next (match s.phase with
    | .reading cause attempt beginsAt => s.failAttempt cause attempt beginsAt
    | _ => s)

/-- CONFIG_RETRY_EXPIRY (R183). -/
def execConfigRetryExpiry (s : State) : Host.Outcome State Fault Refusal :=
  .next (match s.phase with
    | .configFault due => s.beginRetry due
    | _ => s)

/-- CONFIG_READ_COMPLETE (R184 to R186): no effect where no attempt is in progress. -/
def execConfigReadComplete (image : List Byte) (s : State) : Host.Outcome State Fault Refusal :=
  .next (match s.phase with
    | .reading cause _ beginsAt => s.finishRead cause beginsAt image
    | _ => s)

/-- MINUTE_BOUNDARY (R1). -/
def execMinuteBoundary (s : State) : Host.Outcome State Fault Refusal :=
  .next s.minutePasses

/-- TIME (R2). -/
def execTime (f : Frame) (s : State) : Host.Outcome State Fault Refusal :=
  .next (s.receive 0x01 2 f fun x =>
    match decodeTime f.payload with
    | some t => x.takeTime t
    | none => x)

/-- TT_BEGIN (R23). -/
def execTtBegin (f : Frame) (s : State) : Host.Outcome State Fault Refusal :=
  .next (s.receive 0x02 2 f fun x =>
    match decodeTtBegin f.payload with
    | some b => x.beginTransfer f.src.toNat b
    | none => x)

/-- TT_ENTRY (R24, and the merge R15 to R21). -/
def execTtEntry (f : Frame) (s : State) : Host.Outcome State Fault Refusal :=
  .next (s.receive 0x03 2 f fun x =>
    match decodeTtEntry f.payload with
    | some e => x.transferEntry f.src.toNat e
    | none => x)

/-- TT_CANCEL (R22). -/
def execTtCancel (f : Frame) (s : State) : Host.Outcome State Fault Refusal :=
  .next (s.receive 0x04 2 f fun x =>
    match decodeTtCancel f.payload with
    | some id => x.cancelSession id
    | none => x)

/-- SILENCE_TIMER_EXPIRY (R25). -/
def execSilenceTimerExpiry (s : State) : Host.Outcome State Fault Refusal :=
  .next (s.whileRunning fun x =>
    x.onExpiry (x.sessions.transfer.map (·.silenceDue)) fun y => y.closeTransfer .timeout)

/-- OVERRUN_TIMER_EXPIRY (R57). -/
def execOverrunTimerExpiry (s : State) : Host.Outcome State Fault Refusal :=
  .next (s.whileRunning fun x => x.onExpiry x.room.overrunDue State.overrunExpired)

end Sys2Proof.Machine
end

