-- ==== Sys2Proof/Machine/Dispatch.lean ====
section
/-! DEFINITION. One arm for each command: its meaning, called by its full name. -/

namespace Sys2Proof.Machine

/-- The effect of a command on everything but the queue of waiting commands. -/
def exec (i : Instr) (s : State) : Host.Outcome State Fault Refusal :=
  match i with
  | .nrstAsserted => Sys2Proof.Machine.execNrstAsserted s
  | .nrstNegated => Sys2Proof.Machine.execNrstNegated s
  | .configAttemptFailed => Sys2Proof.Machine.execConfigAttemptFailed s
  | .configRetryExpiry => Sys2Proof.Machine.execConfigRetryExpiry s
  | .configReadComplete image => Sys2Proof.Machine.execConfigReadComplete image s
  | .minuteBoundary => Sys2Proof.Machine.execMinuteBoundary s
  | .time f => Sys2Proof.Machine.execTime f s
  | .ttBegin f => Sys2Proof.Machine.execTtBegin f s
  | .ttEntry f => Sys2Proof.Machine.execTtEntry f s
  | .ttCancel f => Sys2Proof.Machine.execTtCancel f s
  | .silenceTimerExpiry => Sys2Proof.Machine.execSilenceTimerExpiry s
  | .overrunTimerExpiry => Sys2Proof.Machine.execOverrunTimerExpiry s
  | .pirPulse => Sys2Proof.Machine.execPirPulse s
  | .beamBreak b => Sys2Proof.Machine.execBeamBreak b s
  | .beamRelease b => Sys2Proof.Machine.execBeamRelease b s
  | .windowExpiry => Sys2Proof.Machine.execWindowExpiry s
  | .stuckTimerExpiry b => Sys2Proof.Machine.execStuckTimerExpiry b s
  | .vacancyHoldExpiry => Sys2Proof.Machine.execVacancyHoldExpiry s
  | .tripleHoldExpiry => Sys2Proof.Machine.execTripleHoldExpiry s
  | .co2Sample counts => Sys2Proof.Machine.execCo2Sample counts s
  | .photocellSample counts => Sys2Proof.Machine.execPhotocellSample counts s
  | .irradianceSample counts => Sys2Proof.Machine.execIrradianceSample counts s
  | .clearDwellExpiry => Sys2Proof.Machine.execClearDwellExpiry s
  | .capacity f => Sys2Proof.Machine.execCapacity f s
  | .demand f => Sys2Proof.Machine.execDemand f s
  | .capacityTimerExpiry => Sys2Proof.Machine.execCapacityTimerExpiry s
  | .viewAgeCheck => Sys2Proof.Machine.execViewAgeCheck s
  | .pinchTimerExpiry => Sys2Proof.Machine.execPinchTimerExpiry s
  | .demandPeriodExpiry => Sys2Proof.Machine.execDemandPeriodExpiry s
  | .moveCompletion => Sys2Proof.Machine.execMoveCompletion s
  | .homingEnd => Sys2Proof.Machine.execHomingEnd s
  | .trip held => Sys2Proof.Machine.execTrip held s
  | .partChange isOpen => Sys2Proof.Machine.execPartChange isOpen s
  | .debounceExpiry => Sys2Proof.Machine.execDebounceExpiry s
  | .offerRetryExpiry => Sys2Proof.Machine.execOfferRetryExpiry s
  | .joinOffer f => Sys2Proof.Machine.execJoinOffer f s
  | .joinAccept f => Sys2Proof.Machine.execJoinAccept f s
  | .joinRefuse f => Sys2Proof.Machine.execJoinRefuse f s
  | .joinLeave f => Sys2Proof.Machine.execJoinLeave f s
  | .pairState f => Sys2Proof.Machine.execPairState f s
  | .pairStatusPeriodExpiry => Sys2Proof.Machine.execPairStatusPeriodExpiry s
  | .livenessExpiry => Sys2Proof.Machine.execLivenessExpiry s
  | .override f => Sys2Proof.Machine.execOverride f s
  | .overrideClear f => Sys2Proof.Machine.execOverrideClear f s
  | .staleTimerExpiry q => Sys2Proof.Machine.execStaleTimerExpiry q s
  | .sceneKey n => Sys2Proof.Machine.execSceneKey n s
  | .lightUp => Sys2Proof.Machine.execLightUp s
  | .lightDown => Sys2Proof.Machine.execLightDown s
  | .blindsUp => Sys2Proof.Machine.execBlindsUp s
  | .blindsDown => Sys2Proof.Machine.execBlindsDown s
  | .blindsStop => Sys2Proof.Machine.execBlindsStop s
  | .airBoostKey => Sys2Proof.Machine.execAirBoostKey s
  | .roomOff => Sys2Proof.Machine.execRoomOff s
  | .panelByteDiscard byte framingError => Sys2Proof.Machine.execPanelByteDiscard byte framingError s
  | .indicatorSent => Sys2Proof.Machine.execIndicatorSent s
  | .lifeSafetyEvacuate f => Sys2Proof.Machine.execLifeSafetyEvacuate f s
  | .lifeSafetySmokeHold f => Sys2Proof.Machine.execLifeSafetySmokeHold f s
  | .lifeSafetyClear f => Sys2Proof.Machine.execLifeSafetyClear f s
  | .fireChange asserted => Sys2Proof.Machine.execFireChange asserted s
  | .holdOn f => Sys2Proof.Machine.execHoldOn f s
  | .holdOff f => Sys2Proof.Machine.execHoldOff f s
  | .restart f => Sys2Proof.Machine.execRestart f s
  | .query f => Sys2Proof.Machine.execQuery f s
  | .otherFrame kind f => Sys2Proof.Machine.execOtherFrame kind f s
  | .frameDiscard bytes badStop => Sys2Proof.Machine.execFrameDiscard bytes badStop s
  | .frameIdleTimeout bytes badStop => Sys2Proof.Machine.execFrameIdleTimeout bytes badStop s
  | .statusPeriodExpiry => Sys2Proof.Machine.execStatusPeriodExpiry s
  | .attemptStart => Sys2Proof.Machine.execAttemptStart s
  | .transmitCompletion => Sys2Proof.Machine.execTransmitCompletion s
  | .collision => Sys2Proof.Machine.execCollision s
  | .backoffEnd => Sys2Proof.Machine.execBackoffEnd s
  | .longPauseEnd => Sys2Proof.Machine.execLongPauseEnd s

end Sys2Proof.Machine
end

