-- ==== Sys2Proof/Machine/Step.lean ====
section
/-! DEFINITION. One step of the block: the command at the front of the queue, or the next byte on the line, or a millisecond of
the oscillator. -/

namespace Sys2Proof.Machine

/-- No command waits: the receive path hears the next byte on the line, or, with none, the block idles for one millisecond of
its oscillator (DESIGN CHOICE: assumption log, entries 1 and 11). -/
def State.idle (s : State) : State :=
  match s.line with
  | [] => s.tick
  | b :: rest => ({ s with line := rest }).hearByte b

/-- The command at the front of the queue is taken and run; on an empty queue the block idles. -/
def step (s : State) : Host.Outcome State Fault Refusal :=
  match s.pending with
  | [] => .next s.idle
  | c :: rest => exec c { s with pending := rest }

/-- The state with the command that a table word spells at the front of its queue. No row of the table has bits, so no word
spells a command and the state is unchanged. -/
def State.withFetchWord (s : State) (nbits w : Nat) : State :=
  match Sys2Proof.decodeTableWord nbits w with
  | some c => { s with pending := c :: s.pending }
  | none => s

end Sys2Proof.Machine
end

