-- ==== Sys2Proof/Safety.lean ====
section
/-! DEFINITION. In what terms the claims speak: what a step changes, and what holds of each part of the state in every state that a
run reaches. Each of the properties below is meant to be kept by every step from any state that has it. -/

namespace Sys2Proof

namespace Machine

/-! ## What a step changes -/

/-- The parts of the state, finer than its blocks. -/
inductive Part where
  | now
  | phase
  | loader
  | pins
  | dims
  | damper
  | motor
  | receiver
  | attempt
  | pauses
  | queue
  | latches
  | linkTimers
  | peers
  | clock
  | records
  | transfer
  | door
  | headcount
  | history
  | samples
  | occupancy
  | switchMarker
  | airRecord
  | capacity
  | grant
  | published
  | light
  | glare
  | held
  | drive
  | pairState
  | partition
  | offers
  | pairTimers
  | pairData
  | mirror
  | handed
  | overrideRecords
  | modes
  | hold
  | indicator
  | draws
  | line
  | pending
  deriving DecidableEq, Repr

/-- Two states agree in a part. -/
def State.agrees (s t : State) : Part → Prop
  | .now => t.now = s.now
  | .phase => t.phase = s.phase
  | .loader => t.loader = s.loader
  | .pins => t.pins = s.pins
  | .dims => t.out.dim1 = s.out.dim1 ∧ t.out.dim2 = s.out.dim2
  | .damper => t.out.dmp = s.out.dmp
  | .motor => t.out.motorUp = s.out.motorUp ∧ t.out.motorDown = s.out.motorDown ∧ t.out.selected = s.out.selected
  | .receiver => t.link.receiver = s.link.receiver
  | .attempt => t.link.attempt = s.link.attempt
  | .pauses => t.link.backoff = s.link.backoff ∧ t.link.longPause = s.link.longPause
  | .queue => t.link.queue = s.link.queue
  | .latches => t.link.latches = s.link.latches
  | .linkTimers => t.link.statusDue = s.link.statusDue ∧ t.link.runningSince = s.link.runningSince
  | .peers => t.peers = s.peers
  | .clock => t.clock = s.clock
  | .records => t.sessions.records = s.sessions.records
  | .transfer => t.sessions.transfer = s.sessions.transfer
  | .door => t.evidence.window = s.evidence.window ∧ t.evidence.stuckDue = s.evidence.stuckDue ∧ t.evidence.stuckMark =
      s.evidence.stuckMark
  | .headcount => t.evidence.headcount = s.evidence.headcount
  | .history => t.evidence.lastEvidence = s.evidence.lastEvidence ∧ t.evidence.holdPassed = s.evidence.holdPassed ∧
      t.evidence.triplePassed = s.evidence.triplePassed ∧ t.evidence.confirmMark = s.evidence.confirmMark
  | .samples => t.evidence.co2 = s.evidence.co2 ∧ t.evidence.co2Fault = s.evidence.co2Fault ∧ t.evidence.co2Due =
      s.evidence.co2Due ∧ t.evidence.photo = s.evidence.photo ∧ t.evidence.irrad = s.evidence.irrad
  | .occupancy => t.room.occupancy = s.room.occupancy ∧ t.room.current = s.room.current ∧ t.room.mirroredId =
      s.room.mirroredId ∧ t.room.overrunScene = s.room.overrunScene ∧ t.room.overrunDue = s.room.overrunDue
  | .switchMarker => t.room.switchMarker = s.room.switchMarker
  | .airRecord => t.air.demand = s.air.demand ∧ t.air.floor = s.air.floor ∧ t.air.airClass = s.air.airClass
  | .capacity => t.air.capacityKnown = s.air.capacityKnown ∧ t.air.capacity = s.air.capacity ∧ t.air.supplyRunning =
      s.air.supplyRunning ∧ t.air.capacityDue = s.air.capacityDue
  | .grant => t.air.grant = s.air.grant ∧ t.air.pinch = s.air.pinch ∧ t.air.episode = s.air.episode ∧ t.air.pinchTimer =
      s.air.pinchTimer ∧ t.air.view = s.air.view
  | .published => t.air.lastPublished = s.air.lastPublished ∧ t.air.demandDue = s.air.demandDue
  | .light => t.light = s.light
  | .glare => t.shade.glare = s.shade.glare ∧ t.shade.dwellDue = s.shade.dwellDue
  | .held => t.shade.held = s.shade.held
  | .drive => t.drive = s.drive
  | .pairState => t.pair.state = s.pair.state ∧ t.pair.readsOpen = s.pair.readsOpen
  | .partition => t.pair.debounceDue = s.pair.debounceDue
  | .offers => t.pair.offerDue = s.pair.offerDue ∧ t.pair.offerCount = s.pair.offerCount
  | .pairTimers => t.pair.livenessDue = s.pair.livenessDue ∧ t.pair.periodDue = s.pair.periodDue
  | .pairData => t.pair.followerCount = s.pair.followerCount ∧ t.pair.combined = s.pair.combined ∧ t.pair.evidenceFlag =
      s.pair.evidenceFlag ∧ t.pair.forwarded = s.pair.forwarded ∧ t.pair.sequence = s.pair.sequence ∧
      t.pair.lastSequence = s.pair.lastSequence
  | .mirror => t.pair.mirror = s.pair.mirror
  | .handed => t.pair.handed = s.pair.handed
  | .overrideRecords => t.overrides.records = s.overrides.records
  | .modes => t.overrides.frameMode = s.overrides.frameMode ∧ t.overrides.lifeSafety = s.overrides.lifeSafety
  | .hold => t.overrides.hold = s.overrides.hold
  | .indicator => t.overrides.sending = s.overrides.sending ∧ t.overrides.indicatorWaiting =
      s.overrides.indicatorWaiting
  | .draws => t.draws = s.draws
  | .line => t.line = s.line
  | .pending => t.pending = s.pending

/-- The second state is the first but for the parts listed. -/
def Changes (ps : List Part) (s t : State) : Prop := ∀ p, p ∉ ps → s.agrees t p

/-- What the readers of a changed record or state reach: the air, the lights, the blinds and the reports (R71, R96, R110, R148). -/
def readerParts : List Part :=
  [.dims, .damper, .motor, .queue, .latches, .airRecord, .grant, .light, .held, .drive, .handed]

/-- What one handling of the Room State Machine reaches: the occupancy state, a vacancy it ends in, the override records that
become stale or go, and every reader of the state (R43, R61, R66). -/
def handlingParts : List Part :=
  [.headcount, .history, .occupancy, .switchMarker, .pairData, .overrideRecords] ++ readerParts

/-- What an evidence event reaches: a handling, and the report of a follower (R32, R140). -/
def evidenceParts : List Part := .attempt :: handlingParts

/-- What the blocks hold, the outputs, and what the node does as a whole. -/
def everyBlock : List Part :=
  [.phase, .dims, .damper, .motor, .receiver, .attempt, .pauses, .queue, .latches, .linkTimers, .peers, .clock, .records, .transfer, .door,
    .headcount, .history, .samples, .occupancy, .switchMarker, .airRecord, .capacity, .grant, .published, .light, .glare, .held,
    .drive, .pairState, .partition, .offers, .pairTimers, .pairData, .mirror, .handed, .overrideRecords, .modes, .hold,
    .indicator]

/-- What each received frame can change before its own effect: the Peer Table, the own record where the partner's M_max goes with
its record, and the refusal of its class (R71, R165, R166). -/
def frameParts : List Part := [.peers, .airRecord, .grant, .damper, .queue, .latches]

/-- What the recording of a frame's source changes (R166): the Peer Table, and, where the partner's record is evicted with its
M_max, what an evaluation of the own record reaches (R71). -/
def State.recordingParts (s : State) (f : Frame) : List Part :=
  if s.losesPartnerMax f.src.toNat then [.peers, .airRecord, .grant, .damper, .queue] else [.peers]

/-! ## Frames taken and events latched (R164, R165, R176) -/

/-- The blocks run and the frame passes the tests of R164: it does not overlap a collided sending of this node, and its source is
another station. -/
structure Heard (s : State) (f : Frame) : Prop where
  running : s.isRunning = true
  clean : f.overlapsOwn = false
  source : 1 ≤ f.src.toNat ∧ f.src.toNat ≤ 126
  foreign : f.src.toNat ≠ s.cfg.station

/-- The frame is heard and of a class that its kind admits (R165). -/
structure Taken (s : State) (f : Frame) (required : Nat) : Prop extends Heard s f where
  cls : f.cls.toNat ≤ required

/-- From the first state to the second, one occurrence of an event is latched (R176). -/
def Latched (s t : State) (d : Detail) : Prop :=
  t.link.latches.get d.kind =
    some (latchOccurrence (s.link.latches.get d.kind) d (s.inFlight (.event d.kind)) (s.statusCarries d.kind))

/-! ## The report queue and the receive path (R163, R172, R177, R179, R181) -/

/-- What holds of the Wing Link Controller: at most eight entries queued in their order, an EVENT entry only for an enabled kind
whose latch is set and never marked for requeue, a status mask of disabled kinds alone, no frame gathered beyond its end (R163), and
nothing at all while the blocks do not run. The order is strict, so no kind has two entries. -/
structure QueueOk (s : State) : Prop where
  atMostEight : s.link.queue.length ≤ 8
  inOrder : s.link.queue.Pairwise fun a b => urgency s.cfg a.kind < urgency s.cfg b.kind
  latched : ∀ e ∈ s.link.queue, ∀ k, e.kind = .event k →
    (s.link.latches.get k).isSome = true ∧ s.eventEnabled k = true ∧ e.requeue = false
  maskDisabled : ∀ a, s.link.attempt = some a → ∀ k : EventKind, a.mask.getLsbD (k.number - 1) = true →
    s.eventEnabled k = false
  gathered : ∀ g, s.link.receiver = some g → frameEnds g.bytes = false
  stopped : s.isRunning = false → s.link.queue = [] ∧ s.link.attempt = none ∧ s.link.receiver = none

/-! ## The Session Table and the current-record mark (R7, R8, R9, R45, R46, R58, R61) -/

/-- The fields of a held record lie in their ranges (R7). -/
structure Session.Ok (r : Session) : Prop where
  id : 1 ≤ r.id
  begins : r.start < r.finish
  lasts : r.finish - r.start ≤ 600
  ends : r.finish ≤ maxMinute
  expected : r.expected ≤ 511
  scene : r.scene ≤ 7
  lead : r.lead ≤ 120
  grace : 5 ≤ r.grace ∧ r.grace ≤ 30

/-- The states in which a node that is no joined follower has a current record (R46). -/
def Occupancy.hasRecord : Occupancy → Bool
  | .precondition | .expected | .occupied | .released => true
  | .vacant | .overrun | .adhoc => false

/-- What holds of the Session Table and of the Room State Machine's mark, overrun record and timer. The session-switch marker is
raised within a handling only. -/
structure RoomOk (s : State) : Prop where
  ranges : ∀ r ∈ s.sessions.records, r.Ok
  atMostSixteen : s.sessions.records.length ≤ 16
  apart : s.sessions.records.Pairwise fun a b => a.finish ≤ b.start ∧ a.id ≠ b.id
  earliest : ∀ id, s.room.current = some id → s.sessions.records.head?.map (·.id) = some id
  marked : s.room.current.isSome = (!s.isFollower && s.room.occupancy.hasRecord)
  overrunTimed : s.room.overrunDue.isSome = (!s.isFollower && s.room.occupancy = .overrun)
  overrunHeld : s.room.overrunScene.isSome = s.room.overrunDue.isSome
  timeless : s.clock.timeValid = false → s.isFollower = false → s.room.occupancy = .vacant ∨ s.room.occupancy = .adhoc
  markerDown : s.room.switchMarker = false

/-! ## The Pair Unit (R129, R130, R136, R142) -/

/-- What holds of the pair state: any state but SINGLE needs an open debounced reading and a partner, the lower address leads, the
liveness and period timers run exactly in a joined state, and the headcounts stay in range, the combined one formed at a lead and
0 at a node that is not joined. -/
structure PairOk (s : State) : Prop where
  reads : s.pair.state ≠ .single → s.pair.readsOpen = true ∧ s.isDivisible = true
  leads : s.pair.state = .joinedLead → s.cfg.station < s.cfg.partner
  follows : s.pair.state = .joinedFollow → s.cfg.partner < s.cfg.station
  timed : s.pair.livenessDue.isSome = s.isJoined
  paced : s.pair.periodDue.isSome = s.isJoined
  headcount : s.evidence.headcount ≤ 511
  follower : s.pair.followerCount ≤ 511
  combined : s.pair.combined ≤ 511
  formed : s.pair.state = .joinedLead → s.pair.combined = min 511 (s.evidence.headcount + s.pair.followerCount)
  apart : s.isJoined = false → s.pair.combined = 0 ∧ s.pair.followerCount = 0

/-! ## The Blind Drive (R114, R115, R116, R123, R124) -/

/-- What holds of a move in flight: its positions are percentages, and it runs toward its target. -/
structure Move.Ok (m : Move) : Prop where
  start : m.startPos ≤ 100
  target : m.target ≤ 100
  travel : m.phase = .travel →
    match m.direction with
    | .lower => m.startPos ≤ m.target
    | .raise => m.target ≤ m.startPos
  homing : ∀ f, m.phase = .homing f → f.pos ≤ 100 ∧ m.direction = .raise

/-- What holds of the Blind Drive and of what is asked of it: every position is a percentage, the motor lines and the select lines
are those of the one move in flight, no bank is both moving and pending, and outside hold a request waits only while a move is in
flight. -/
structure DriveOk (s : State) : Prop where
  glarePos : ∀ b, (s.cfg.banks.get b).glarePos ≤ 100
  blinds : ∀ r, s.overrides.records.blinds = some r → 0 ≤ r.value ∧ r.value ≤ 100
  held : ∀ b t, s.shade.held.get b = some t → t.pos ≤ 100
  pos : ∀ b, s.drive.pos.get b ≤ 100
  waiting : ∀ b t, s.drive.waiting.get b = some t → t.pos ≤ 100
  moving : ∀ m, s.drive.move = some m → m.Ok ∧ s.drive.waiting.get m.bank = none ∧ s.out.selected = m.bank ∧
    s.out.motorUp = decide (m.direction = .raise) ∧ s.out.motorDown = decide (m.direction = .lower)
  standing : s.drive.move = none → s.out.motorUp = false ∧ s.out.motorDown = false
  granted : s.overrides.hold = false → s.drive.move = none → ∀ b, s.drive.waiting.get b = none
  stopped : s.isRunning = false → s.drive.move = none ∧ ∀ b, s.drive.waiting.get b = none

/-! ## Life-safety (R102, R127, R158, R159) -/

/-- A move does not lead above position 0. -/
def Move.towardOpen (m : Move) : Prop :=
  match m.phase with
  | .travel => m.target = 0 ∧ m.direction = .raise
  | .homing f => f.pos = 0

/-- What holds of life-safety: while the blocks run its mode is the one formed from the frame mode and the FIRE input, and while it
is active the lights stand at 1000, the damper as the mode commands, the own air record and the grant at 0, and no bank has a move
in flight or a request pending toward a position above 0. -/
structure SafetyOk (s : State) : Prop where
  formed : s.isRunning = true → s.overrides.lifeSafety = formedMode s.overrides.frameMode s.pins.fire
  lights : s.isRunning = true → s.lifeSafetyActive = true → s.out.dim1 = 1000 ∧ s.out.dim2 = 1000
  evacuate : s.isRunning = true → s.overrides.lifeSafety = .evacuate → s.out.dmp = 0
  smokeHold : ∀ p, s.isRunning = true → s.overrides.lifeSafety = .smokeHold p → s.out.dmp = min 1000 p
  air : s.isRunning = true → s.lifeSafetyActive = true →
    s.air.demand = 0 ∧ s.air.floor = 0 ∧ s.air.airClass = 0 ∧ s.air.grant = 0
  noClass : s.air.airClass = 0 → s.air.grant = 0
  moving : s.isRunning = true → s.lifeSafetyActive = true → ∀ m, s.drive.move = some m → m.towardOpen
  waiting : s.isRunning = true → s.lifeSafetyActive = true → ∀ b t, s.drive.waiting.get b = some t → t.pos = 0
  held : ∀ b t, s.shade.held.get b = some t → t.origin = .safety → t.pos = 0
  stopped : s.isRunning = false → s.drive.move = none ∧ ∀ b, s.drive.waiting.get b = none

/-! ## The air (R70, R77, R79, R85, R88, R90) -/

/-- What holds of the air: F ≤ D ≤ M_max, the grant within D, within the capacity while it is known and within the isolated ceiling
while it is not, the pinch flag exactly while the grant is below D, and the damper at the opening of the grant outside hold and
life-safety. -/
structure AirOk (s : State) : Prop where
  mMax : 50 ≤ s.cfg.mMax ∧ s.cfg.mMax ≤ 2000
  floor : s.air.floor ≤ s.air.demand
  demand : s.air.demand ≤ s.cfg.mMax
  airClass : s.air.airClass ≤ 3
  grant : s.air.grant ≤ s.air.demand
  capacity : s.air.capacity ≤ 20000
  known : s.air.capacityKnown = true → s.air.grant ≤ s.air.capacity
  unknown : s.air.capacityKnown = false → s.air.grant ≤ s.isolatedCeiling
  pinch : s.air.pinch = decide (s.air.grant < s.air.demand)
  safety : s.isRunning = true → s.lifeSafetyActive = true → s.air.airClass = 0
  damper : s.isRunning = true → s.lifeSafetyActive = false → s.overrides.hold = false →
    s.out.dmp = min 1000 (s.air.grant * 1000 / s.cfg.mMax)

/-! ## The Peer Table (R166, R167) -/

/-- What holds of the Peer Table: at most 48 records of distinct station addresses 1..126, a pair part only for the configured
partner, and no record while the blocks do not run. -/
structure PeersOk (s : State) : Prop where
  atMost48 : s.peers.length ≤ 48
  distinct : s.peers.Pairwise fun a b => a.address < b.address
  addresses : ∀ p ∈ s.peers, 1 ≤ p.address ∧ p.address ≤ 126
  pairPart : ∀ p ∈ s.peers, p.pairPart.isSome = true → p.address = s.cfg.partner ∧ s.cfg.partner ≠ 0
  stopped : s.isRunning = false → s.peers = []

/-! ## The lights (R95, R97, R98, R100, R102) -/

/-- What holds of the lights: every level and target lies in 0..1000, a loop target of 0 keeps the rest channel off, and outside hold
and life-safety the outputs carry the front and rest levels. -/
structure LightOk (s : State) : Prop where
  scenes : ∀ sc ∈ s.cfg.scenes, sc.front ≤ 1000 ∧ sc.rest ≤ 1000
  front : s.light.front ≤ 1000
  rest : s.light.rest ≤ 1000
  target : s.light.loopTarget ≤ 1000
  level : s.light.restLevel ≤ 1000
  off : s.light.loopTarget = 0 → s.light.restLevel = 0
  dims : s.out.dim1 ≤ 1000 ∧ s.out.dim2 ≤ 1000
  carried : s.isRunning = true → s.lifeSafetyActive = false → s.overrides.hold = false →
    s.out.dim1 = s.light.front ∧ s.out.dim2 = s.light.restLevel

/-! ## What the readers hold of the room (R63, R66, R72, R96, R97, R110, R112) -/

/-- What holds of the floor and the class of the own demand record while the blocks run: they are those that R72 gives by
life-safety, an AIR_BOOST record and the occupancy state, the floor where F_vac lies in its range (R70). -/
structure ClassOk (s : State) : Prop where
  safety : s.isRunning = true → s.lifeSafetyActive = true → s.air.floor = 0 ∧ s.air.airClass = 0
  floor : s.isRunning = true → s.lifeSafetyActive = false → s.cfg.vacFloor ≤ s.cfg.mMax → s.air.floor = s.cfg.vacFloor
  boost : s.isRunning = true → s.lifeSafetyActive = false → s.overrides.records.airBoost.isSome = true → s.air.airClass = 3
  room : s.isRunning = true → s.lifeSafetyActive = false → s.overrides.records.airBoost = none →
    s.air.airClass =
      match s.room.occupancy with
      | .occupied | .overrun | .adhoc => 3
      | .precondition | .expected => 2
      | .vacant | .released => 1

/-- What holds of the lights and the blinds while the blocks run: the scene in use is the active one, the loop target is formed from
it (at a joined follower by its lead's frames alone, R111), every bank is held at its target, and the Pair Unit holds the values
carried to the partner. -/
structure ViewsOk (s : State) : Prop where
  scene : s.isRunning = true → s.light.scene = s.activeNumber
  fields : s.isRunning = true → s.light.front = s.activeScene.front ∧ s.light.rest = s.activeScene.rest ∧
    s.light.policy = s.activeScene.policy
  target : s.isRunning = true → s.isFollower = false → s.light.loopTarget = s.formTarget s.light.rest
  held : s.isRunning = true → ∀ b, s.shade.held.get b = s.bankTarget b
  handed : s.isRunning = true → s.pair.handed = s.carriedValues

/-! ## The override records (R147, R148) -/

/-- The range of a quantity's value (R148). A HOLD_VACANT record's value is not used; a BLINDS record's range stands in `DriveOk`. -/
def quantityInRange : Quantity → Int → Prop
  | .lightScene, v => 0 ≤ v ∧ v ≤ 7
  | .lightLevel, v => -1000 ≤ v ∧ v ≤ 1000
  | .airBoost, v => 0 ≤ v ∧ v ≤ 2000
  | .blinds, _ | .holdVacant, _ => True

/-- What holds of the override records: levels 1..3, values in the range of their quantity, expiries within the wing minutes, and a
stale flag on level 3 alone. -/
structure OverridesOk (s : State) : Prop where
  boost : s.cfg.boostCeiling ≤ 2000
  level : ∀ q r, s.overrides.records.get q = some r → 1 ≤ r.level ∧ r.level ≤ 3
  value : ∀ q r, s.overrides.records.get q = some r → quantityInRange q r.value
  expiry : ∀ q r m, s.overrides.records.get q = some r → r.expiry = some m → m ≤ maxMinute
  stale : ∀ q r, s.overrides.records.get q = some r → r.stale.isSome = true → r.level = 3

end Machine

open Machine

/-! ## Frame commands (R165) -/

/-- A frame command's frame, its kind code and the class its kind requires; none for every other command. -/
def Instr.asFrame : Instr → Option (Frame × Nat × Nat)
  | .time f => some (f, 0x01, 2)
  | .ttBegin f => some (f, 0x02, 2)
  | .ttEntry f => some (f, 0x03, 2)
  | .ttCancel f => some (f, 0x04, 2)
  | .capacity f => some (f, 0x08, 2)
  | .demand f => some (f, 0x09, 3)
  | .joinOffer f => some (f, 0x10, 3)
  | .joinAccept f => some (f, 0x11, 3)
  | .joinRefuse f => some (f, 0x12, 3)
  | .joinLeave f => some (f, 0x13, 3)
  | .pairState f => some (f, 0x14, 3)
  | .override f => some (f, 0x18, 2)
  | .overrideClear f => some (f, 0x18, 2)
  | .lifeSafetyEvacuate f => some (f, 0x1B, 0)
  | .lifeSafetySmokeHold f => some (f, 0x1B, 0)
  | .lifeSafetyClear f => some (f, 0x1B, 0)
  | .holdOn f => some (f, 0x19, 1)
  | .holdOff f => some (f, 0x19, 1)
  | .restart f => some (f, 0x1A, 1)
  | .query f => some (f, 0x20, 3)
  | .otherFrame kind f => some (f, kind.toNat, 3)
  | .nrstAsserted | .nrstNegated | .configAttemptFailed | .configRetryExpiry | .configReadComplete _
  | .minuteBoundary | .silenceTimerExpiry | .overrunTimerExpiry | .pirPulse | .beamBreak _ | .beamRelease _
  | .windowExpiry | .stuckTimerExpiry _ | .vacancyHoldExpiry | .tripleHoldExpiry | .co2Sample _
  | .photocellSample _ | .irradianceSample _ | .clearDwellExpiry | .capacityTimerExpiry | .viewAgeCheck
  | .pinchTimerExpiry | .demandPeriodExpiry | .moveCompletion | .homingEnd | .trip _ | .partChange _
  | .debounceExpiry | .offerRetryExpiry | .pairStatusPeriodExpiry | .livenessExpiry | .staleTimerExpiry _
  | .sceneKey _ | .lightUp | .lightDown | .blindsUp | .blindsDown | .blindsStop | .airBoostKey | .roomOff
  | .panelByteDiscard _ _ | .indicatorSent | .fireChange _ | .frameDiscard _ _ | .frameIdleTimeout _ _
  | .statusPeriodExpiry | .attemptStart | .transmitCompletion | .collision | .backoffEnd | .longPauseEnd => none

/-! ## The frame of every command -/

/-- The parts of the state that a command can change. Every other part it leaves as it is, whatever the state. -/
def Instr.mayChange : Instr → List Part
  | .nrstAsserted => everyBlock
  | .nrstNegated => [.phase]
  | .configAttemptFailed => .now :: everyBlock
  | .configRetryExpiry => [.now, .phase]
  | .configReadComplete _ => .now :: .loader :: everyBlock
  | .minuteBoundary => [.now, .clock, .records] ++ handlingParts
  | .time _ => [.peers, .clock, .records] ++ handlingParts
  | .ttBegin _ => [.peers, .records, .transfer] ++ handlingParts
  | .ttEntry _ => [.peers, .records, .transfer] ++ handlingParts
  | .ttCancel _ => [.peers, .records] ++ handlingParts
  | .silenceTimerExpiry => [.now, .transfer, .queue, .latches]
  | .overrunTimerExpiry => .now :: handlingParts
  | .pirPulse => evidenceParts
  | .beamBreak _ => [.pins, .door] ++ evidenceParts
  | .beamRelease _ => [.pins, .door, .airRecord, .grant, .damper, .queue]
  | .windowExpiry => [.now, .door] ++ evidenceParts
  | .stuckTimerExpiry _ => [.now, .door] ++ evidenceParts
  | .vacancyHoldExpiry => .now :: handlingParts
  | .tripleHoldExpiry => .now :: handlingParts
  | .co2Sample _ => [.now, .samples, .airRecord, .grant, .damper, .queue, .latches]
  | .photocellSample _ => [.now, .samples, .light, .dims, .queue, .latches]
  | .irradianceSample _ => [.now, .samples, .glare, .held, .drive, .motor, .handed, .queue, .latches]
  | .clearDwellExpiry => [.now, .glare, .held, .drive, .motor, .handed, .queue, .latches]
  | .capacity _ => [.capacity, .grant, .damper] ++ frameParts
  | .demand _ => [.grant, .damper] ++ frameParts
  | .capacityTimerExpiry => [.now, .capacity, .grant, .damper]
  | .viewAgeCheck => [.grant, .damper]
  | .pinchTimerExpiry => [.now, .grant, .queue, .latches]
  | .demandPeriodExpiry => [.now, .published, .queue]
  | .moveCompletion => [.now, .drive, .motor, .queue, .latches]
  | .homingEnd => [.now, .drive, .motor, .queue, .latches]
  | .trip _ => [.pins, .drive, .motor, .queue, .latches]
  | .partChange _ => [.pins, .partition]
  | .debounceExpiry => [.now, .partition, .pairState, .offers, .pairTimers, .records] ++ evidenceParts
  | .offerRetryExpiry => [.now, .offers, .queue]
  | .joinOffer _ => [.peers, .pairState, .offers, .pairTimers, .mirror] ++ handlingParts
  | .joinAccept _ => [.peers, .pairState, .offers, .pairTimers, .mirror] ++ handlingParts
  | .joinRefuse _ => frameParts
  | .joinLeave _ => [.peers, .pairState, .offers, .pairTimers, .records] ++ evidenceParts
  | .pairState _ => [.peers, .pairTimers, .mirror] ++ evidenceParts
  | .pairStatusPeriodExpiry => [.now, .pairTimers, .queue]
  | .livenessExpiry => [.now, .pairState, .offers, .pairTimers, .records] ++ evidenceParts
  | .override _ => [.peers, .overrideRecords] ++ readerParts
  | .overrideClear _ => [.peers, .overrideRecords] ++ readerParts
  | .staleTimerExpiry _ => [.now, .overrideRecords] ++ readerParts
  | .sceneKey _ => .indicator :: evidenceParts
  | .lightUp => .indicator :: evidenceParts
  | .lightDown => .indicator :: evidenceParts
  | .blindsUp => .indicator :: evidenceParts
  | .blindsDown => .indicator :: evidenceParts
  | .blindsStop => .indicator :: evidenceParts
  | .airBoostKey => .indicator :: evidenceParts
  | .roomOff => .indicator :: evidenceParts
  | .panelByteDiscard _ _ => []
  | .indicatorSent => [.indicator]
  | .lifeSafetyEvacuate _ => [.peers, .modes] ++ readerParts
  | .lifeSafetySmokeHold _ => [.peers, .modes] ++ readerParts
  | .lifeSafetyClear _ => [.peers, .modes] ++ readerParts
  | .fireChange _ => [.pins, .modes] ++ readerParts
  | .holdOn _ => [.hold, .drive, .motor] ++ frameParts
  | .holdOff _ => [.hold, .dims, .damper, .drive, .motor] ++ frameParts
  | .restart _ => [.phase, .receiver, .attempt, .pauses, .drive, .motor, .indicator] ++ frameParts
  | .query _ => frameParts
  | .otherFrame _ _ => frameParts
  | .frameDiscard _ _ => [.queue, .latches]
  | .frameIdleTimeout _ _ => [.receiver, .queue, .latches]
  | .statusPeriodExpiry => [.now, .linkTimers, .queue]
  | .attemptStart => [.attempt]
  | .transmitCompletion => [.attempt, .queue, .latches, .linkTimers, .published, .pairTimers, .pairData]
  | .collision => [.receiver, .attempt, .pauses, .queue, .latches, .draws]
  | .backoffEnd => [.pauses]
  | .longPauseEnd => [.now, .pauses]

/-- The commands that act although the blocks do not run: reset, the configuration read, the input lines, the clock's own advance
at a soft restart, and the indicator being sent (R157, R182, R183, R186). -/
def Instr.actsWhileStopped : Instr → Bool
  | .nrstAsserted | .nrstNegated | .configAttemptFailed | .configRetryExpiry | .configReadComplete _ => true
  | .minuteBoundary | .beamBreak _ | .beamRelease _ | .trip _ | .partChange _ | .fireChange _ | .indicatorSent => true
  | .time _ | .ttBegin _ | .ttEntry _ | .ttCancel _ | .silenceTimerExpiry | .overrunTimerExpiry | .pirPulse
  | .windowExpiry | .stuckTimerExpiry _ | .vacancyHoldExpiry | .tripleHoldExpiry | .co2Sample _
  | .photocellSample _ | .irradianceSample _ | .clearDwellExpiry | .capacity _ | .demand _
  | .capacityTimerExpiry | .viewAgeCheck | .pinchTimerExpiry | .demandPeriodExpiry | .moveCompletion
  | .homingEnd | .debounceExpiry | .offerRetryExpiry | .joinOffer _ | .joinAccept _ | .joinRefuse _
  | .joinLeave _ | .pairState _ | .pairStatusPeriodExpiry | .livenessExpiry | .override _ | .overrideClear _
  | .staleTimerExpiry _ | .sceneKey _ | .lightUp | .lightDown | .blindsUp | .blindsDown | .blindsStop
  | .airBoostKey | .roomOff | .panelByteDiscard _ _ | .lifeSafetyEvacuate _ | .lifeSafetySmokeHold _
  | .lifeSafetyClear _ | .holdOn _ | .holdOff _ | .restart _ | .query _ | .otherFrame _ _ | .frameDiscard _ _
  | .frameIdleTimeout _ _ | .statusPeriodExpiry | .attemptStart | .transmitCompletion | .collision
  | .backoffEnd | .longPauseEnd => false

end Sys2Proof
end

