-- ==== Sys2Proof/Certificates/Slice0/Obligations.lean ====
section
/-! DEFINITION. The statements for the provers, each from the numbered rules its docstring names. -/

open Sys2Proof Sys2Proof.Machine

/-! ## The step, and what every command keeps -/

/-- A step takes the command at the front of the queue and runs it with the queue's rest. With no command waiting, the receive path
hears the next byte on the line, and with no byte there either a millisecond of the oscillator passes (both the model's choices: log
entries 1 and 11). -/
def Obligations.StepRunsTheFrontCommand : Prop :=
  (∀ (c : Instr) (rest : List Instr) (s : State),
    step { s with pending := c :: rest } = exec c { s with pending := rest }) ∧
  (∀ (s : State) (b : LineByte) (rest : List LineByte), s.pending = [] → s.line = b :: rest →
    step s = .next (State.hearByte { s with line := rest } b)) ∧
  ∀ s : State, s.pending = [] → s.line = [] → step s = .next { s with now := s.now + 1 }

/-- Every command has a next state, and leaves every part of the state as it is but for those its rules name: the queue of waiting
commands among what it leaves. -/
def Obligations.EveryCommandKeepsWhatItsRulesDoNotName : Prop :=
  ∀ (c : Instr) (s : State), ∃ t, exec c s = .next t ∧ Changes c.mayChange s t

/-- While the blocks do not run, only reset, the configuration read, the input lines, the clock at a soft restart and an indicator
being sent act (R182, R183, R186). That an input line may still change is the model's choice (log entries 2 and 19). -/
def Obligations.StoppedBlocksTakeNoCommand : Prop :=
  ∀ (c : Instr) (s : State), s.isRunning = false →
    (c.actsWhileStopped = false → exec c s = .next s) ∧
      (∀ b, ∃ t, exec (.beamBreak b) s = .next t ∧ Changes [.pins] s t ∧ t.pins.broken.get b = true) ∧
      (∀ b, ∃ t, exec (.beamRelease b) s = .next t ∧ Changes [.pins] s t ∧ t.pins.broken.get b = false) ∧
      (∀ o, ∃ t, exec (.partChange o) s = .next t ∧ Changes [.pins] s t ∧ t.pins.partOpen = o) ∧
      (∀ h, ∃ t, exec (.trip h) s = .next t ∧ Changes [.pins] s t ∧ t.pins.btrip = h)

/-! ## What every step keeps -/

/-- The properties of this model's Safety file hold right after reset. -/
def Obligations.ResetMeetsEveryInvariant : Prop :=
  QueueOk .reset ∧ RoomOk .reset ∧ PairOk .reset ∧ DriveOk .reset ∧ SafetyOk .reset ∧ AirOk .reset ∧ PeersOk .reset ∧
    LightOk .reset ∧ OverridesOk .reset ∧ ClassOk .reset ∧ ViewsOk .reset

/-- The report queue stays in order, within eight entries, one of a kind, and the receive path gathers no frame beyond its end
(R163, R172, R174, R177, R179). -/
def Obligations.TheReportQueueStaysInOrder : Prop :=
  ∀ s t : State, QueueOk s → step s = .next t → QueueOk t

/-- The Session Table stays sorted without overlap, and the current mark is on the earliest record exactly in the states that
have one (R8, R9, R46, R56, R57, R61). -/
def Obligations.TheSessionTableAndTheCurrentMarkStayConsistent : Prop :=
  ∀ s t : State, RoomOk s → step s = .next t → RoomOk t

/-- The pair state stays consistent with the partition, the addresses, the timers and the headcounts (R129, R130, R136, R142). -/
def Obligations.ThePairStaysConsistent : Prop :=
  ∀ s t : State, PairOk s → step s = .next t → PairOk t

/-- One bank moves at a time, the motor lines follow the move, and outside hold no request waits while nothing moves (R114, R115,
R121, R123). -/
def Obligations.TheBlindDriveStaysConsistent : Prop :=
  ∀ s t : State, DriveOk s → step s = .next t → DriveOk t

/-- Life-safety holds the lights on, the damper where it commands it, the air record at zero and the blinds toward open, for as long
as it is active (R78, R89, R102, R127, R158, R159). -/
def Obligations.LifeSafetyHoldsTheOutputs : Prop :=
  ∀ s t : State, SafetyOk s → step s = .next t → SafetyOk t

/-- The grant stays within the demand, the capacity and the isolated ceiling, and the damper follows it (R70, R85, R88, R90). -/
def Obligations.TheGrantStaysInItsBounds : Prop :=
  ∀ s t : State, AirOk s → step s = .next t → AirOk t

/-- The Peer Table stays within 48 records of distinct stations (R166, R167). That the list is held by rising address is the model's
way of writing a table that has no order (log entry 24). -/
def Obligations.ThePeerTableStaysConsistent : Prop :=
  ∀ s t : State, PeersOk s → step s = .next t → PeersOk t

/-- The light levels stay in range and the outputs carry them outside hold and life-safety (R97, R99, R100, R102). -/
def Obligations.TheLightsStayInRange : Prop :=
  ∀ s t : State, LightOk s → step s = .next t → LightOk t

/-- The override records stay in range (R147, R148, R152, R153). -/
def Obligations.TheOverrideRecordsStayInRange : Prop :=
  ∀ s t : State, OverridesOk s → step s = .next t → OverridesOk t

/-! ## Formats -/

/-- A byte on the panel line is the key of its code or a discard (R154, R192), and an indicator frame is C5h, the occupancy code,
and the scene with the accepted bit (R157, R192). The bank-select lines carry the number of the bank as a two-bit value, BSEL1 its
high bit (R193). -/
def Obligations.PanelBytesAreKeysOrDiscards : Prop :=
  (∀ n : Fin 8, panelCommand (0x10#8 + BitVec.ofNat 8 n) false = .sceneKey n) ∧
    panelCommand 0x20 false = .lightUp ∧ panelCommand 0x21 false = .lightDown ∧
    panelCommand 0x30 false = .blindsUp ∧ panelCommand 0x31 false = .blindsDown ∧ panelCommand 0x32 false = .blindsStop ∧
    panelCommand 0x40 false = .airBoostKey ∧ panelCommand 0x50 false = .roomOff ∧
    (∀ b : Byte, b ∉ [0x10#8, 0x11, 0x12, 0x13, 0x14, 0x15, 0x16, 0x17, 0x20, 0x21, 0x30, 0x31, 0x32, 0x40, 0x50] →
      panelCommand b false = .panelByteDiscard b false) ∧
    (∀ b : Byte, panelCommand b true = .panelByteDiscard b true) ∧
    (∀ b : Bank, 2 * bit b.selectLines.1 + bit b.selectLines.2 = b.number) ∧
    Bank.selectLines .bank1 = (false, true) ∧ Bank.selectLines .bank2 = (true, false) ∧
    Bank.selectLines .bank3 = (true, true) ∧ (∀ b : Bank, b.selectLines ≠ (false, false)) ∧
    ∀ (o : Occupancy) (n : Fin 8) (a : Bool),
      (⟨o, n, a⟩ : Indicator).bytes = [0xC5#8, BitVec.ofNat 8 o.code, BitVec.ofNat 8 (n + if a then 128 else 0)]

/-- A frame as a station sends it (R188) comes back as the command of its kind with the same source, class and payload, whatever the
payload: no bit of the layout is dropped, and the CRC that the sender appends (R189) passes the receiver's checks (R163). -/
def Obligations.FramesComeBackAsTheyWereSent : Prop :=
  ∀ (source cls kind : Nat) (payload : List Byte) (overlaps : Bool),
    source < 256 → cls < 4 → kind < 64 → payload.length ≤ 24 →
      frameCommand (frameBody source cls kind payload) false overlaps =
        kindCommand (BitVec.ofNat 6 kind) ⟨BitVec.ofNat 8 source, BitVec.ofNat 2 cls, payload, overlaps⟩

/-- What this node sends as DEMAND, JOIN_OFFER and the two kinds of PAIR_STATE, another node reads back from the payload (R92, R133,
R139, R140, R190). The layout of an absent request and of values out of range is the model's choice (log entry 12). -/
def Obligations.PayloadsOfTheNodeReadBack : Prop :=
  ∀ s : State,
    (s.cfg.riser < 256 → s.air.demand < 65536 → s.air.floor < 65536 → s.air.airClass < 256 →
      decodeDemand s.demandPayload = some ⟨s.cfg.riser, s.air.demand, s.air.floor, s.air.airClass⟩) ∧
    (s.cfg.mMax < 65536 → s.evidence.headcount < 65536 →
      decodeJoinOffer (s.pairCtrlPayload .joinOffer) = some (s.cfg.mMax, s.evidence.headcount) ∧
        decodeJoinAccept (s.pairCtrlPayload .joinAccept) = some s.cfg.mMax) ∧
    (s.evidence.headcount ≤ 511 → s.pair.sequence < 256 →
      (∀ k, s.pair.forwarded = some k →
        (k.key = .scene → 0 ≤ k.value ∧ k.value ≤ 7) ∧ (-128 ≤ k.value ∧ k.value ≤ 127)) →
      pairStateRole s.followPayload = some 1 ∧
        (decodeFollow s.followPayload).headcount = s.evidence.headcount ∧
        (decodeFollow s.followPayload).evidence = s.pair.evidenceFlag ∧
        (decodeFollow s.followPayload).forwarded = s.pair.forwarded ∧
        (s.pair.forwarded.isSome = true → (decodeFollow s.followPayload).sequence = s.pair.sequence)) ∧
    (s.carriedValues.scene ≤ 7 → (∀ n, s.carriedValues.lightScene = some n → n ≤ 7) →
      (∀ v, s.carriedValues.lightLevel = some v → -1000 ≤ v ∧ v ≤ 1000) → (∀ i, s.sessionId = some i → 1 ≤ i ∧ i < 65536) →
      s.pair.combined ≤ 511 →
      pairStateRole s.leadPayload = some 0 ∧
        decodeLead s.leadPayload =
          some
            { occupancy := s.room.occupancy
              session := s.sessionId
              combined := s.pair.combined
              mirror :=
                { scene := s.carriedValues.scene
                  lightScene := s.carriedValues.lightScene
                  lightLevel := s.carriedValues.lightLevel
                  policy := s.carriedValues.policy
                  glare := s.carriedValues.glare } })

/-- A numeric field of the image: its index, its address and width in bytes, its range, its default where it has one, and the value
that the record holds for it (R184, R191, section 10.3). -/
structure NumericField where
  index : Nat
  address : Nat
  bytes : Nat
  lo : Nat
  hi : Nat
  default : Option Nat
  held : Nat

/-- The field as it stands in the image. -/
def NumericField.raw (x : NumericField) (image : List Byte) : Nat := if x.bytes = 1 then byteAt image x.address else u16 image x.address

/-- The field has a default, and its bytes all read 255 (R184). -/
def NumericField.Erased (x : NumericField) (image : List Byte) : Prop := x.default.isSome = true ∧ x.raw image = 256 ^ x.bytes - 1

/-- The field is neither erased nor in range (R184). -/
def NumericField.OutOfRange (x : NumericField) (image : List Byte) : Prop :=
  ¬ x.Erased image ∧ (x.raw image < x.lo ∨ x.hi < x.raw image)

/-- The numeric fields of section 10.3 at the addresses of R191; the range of a field that depends on another uses that one's
checked value (R184). -/
def numericFields (c : ConfigRecord) : List NumericField :=
  [⟨1, 0, 1, 1, 126, none, c.station⟩, ⟨2, 1, 2, 0, 65535, none, c.room⟩, ⟨3, 3, 2, 0, 65535, some 0, c.pairRoom⟩,
    ⟨4, 5, 1, 0, 126, some 0, c.partner⟩, ⟨5, 6, 1, 1, 15, none, c.riser⟩, ⟨6, 7, 2, 50, 2000, some 600, c.mMax⟩,
    ⟨7, 9, 2, 0, 1000, some 40, c.areaRate⟩, ⟨8, 11, 1, 4, 20, some 10, c.personRate⟩, ⟨9, 12, 2, 0, c.mMax, some 60, c.vacFloor⟩,
    ⟨10, 14, 2, 600, 1500, some 1000, c.co2Setpoint⟩, ⟨11, 16, 1, 0, 100, some 20, c.co2Gain⟩,
    ⟨12, 17, 2, 0, c.mMax, some 300, c.isolated⟩, ⟨13, 19, 1, 10, 60, some 20, c.demandPeriod⟩,
    ⟨14, 20, 2, 0, c.mMax, some 100, c.boostCeiling⟩, ⟨15, 22, 1, 5, 30, some 10, c.vacancyHold⟩,
    ⟨16, 23, 1, 30, 240, some 60, c.overrunLimit⟩, ⟨17, 24, 2, 30, 300, some 60, c.statusPeriod⟩,
    ⟨18, 26, 1, 1, 64, some 16, c.loopGain⟩, ⟨19, 27, 2, 150, 800, some 350, c.glareThreshold⟩,
    ⟨20, 29, 2, 20, min 300 (c.glareThreshold - 10), some 80, c.hysteresis⟩] ++
  ([Bank.bank1, .bank2, .bank3].map fun b =>
    [⟨21 + 3 * (b.number - 1), 31 + 3 * (b.number - 1), 1, 20, 180, some 60, (c.banks.get b).travel⟩,
      ⟨22 + 3 * (b.number - 1), 32 + 3 * (b.number - 1), 1, 40, 100, some 70, (c.banks.get b).glarePos⟩]).flatten ++
  ([1, 2, 3, 4, 5, 6, 7].map fun n =>
    [⟨30 + 3 * n, 40 + 5 * n, 2, 0, 1000, some 800, (sceneOf c n).front⟩,
      ⟨31 + 3 * n, 42 + 5 * n, 2, 0, 1000, some 500, (sceneOf c n).rest⟩]).flatten

/-- The field of an index counts as clamped (R184, R191): a numeric field out of its range, or a screen-side flag, a scene's blind
policy or an event byte that is not erased and holds no defined code. -/
def FieldClamped (image : List Byte) (index : Nat) : Prop :=
  (∃ x ∈ numericFields (recordFrom image), x.index = index ∧ x.OutOfRange image) ∨
  (∃ b : Bank, index = 23 + 3 * (b.number - 1) ∧ byteAt image (33 + 3 * (b.number - 1)) ∉ [0, 1, 255]) ∨
  (∃ n : Fin 7, index = 32 + 3 * (n.val + 1) ∧ byteAt image (49 + 5 * n.val) ∉ [0, 1, 2, 255]) ∨
  ∃ k : EventKind, index = 53 + k.number ∧ byteAt image (79 + k.number) ≠ 255 ∧ image.getD (79 + k.number) 0 &&& 0x78#8 ≠ 0

/-- Whatever the image holds, a numeric field is held as read in its range, at the nearer bound outside it, and at its default where
it is erased, a station address outside its range becoming 126; every field lies in its range but for an erased F_vac, I or boost
ceiling over a smaller M_max, of which the engine uses no more than M_max (R70, R184; log entry 16); the coded fields take the value
of their code or the default; and the first clamped index is the lowest of a clamped field (R184, R191, section 10.3). -/
def Obligations.TheConfigurationRecordIsInRange : Prop :=
  ∀ image : List Byte,
    let c := recordFrom image
    (1 ≤ c.station ∧ c.station ≤ 126) ∧ c.room < 65536 ∧ c.pairRoom < 65536 ∧ c.partner ≤ 126 ∧ (1 ≤ c.riser ∧ c.riser ≤ 15) ∧
      (50 ≤ c.mMax ∧ c.mMax ≤ 2000) ∧ c.areaRate ≤ 1000 ∧ (4 ≤ c.personRate ∧ c.personRate ≤ 20) ∧
      (c.vacFloor ≤ c.mMax ∨ (u16 image 12 = 65535 ∧ c.vacFloor = 60)) ∧ (600 ≤ c.co2Setpoint ∧ c.co2Setpoint ≤ 1500) ∧
      c.co2Gain ≤ 100 ∧ (c.isolated ≤ c.mMax ∨ (u16 image 17 = 65535 ∧ c.isolated = 300)) ∧
      (∀ s : State, s.vacantFloor = min s.cfg.mMax s.cfg.vacFloor ∧ s.isolatedCeiling = min s.cfg.mMax s.cfg.isolated) ∧
      (∀ x ∈ numericFields c,
        (x.Erased image → some x.held = x.default) ∧
        (¬ x.Erased image → x.lo ≤ x.raw image → x.raw image ≤ x.hi → x.held = x.raw image) ∧
        (¬ x.Erased image → x.hi < x.raw image → x.held = x.hi) ∧
        (¬ x.Erased image → x.raw image < x.lo → x.held = if x.index = 1 then 126 else x.lo)) ∧
      (∀ i, (loaderFrom image).firstClamped = some i ↔ FieldClamped image i ∧ ∀ j, j < i → ¬ FieldClamped image j) ∧
      ((loaderFrom image).clampedAtStart = true ↔ ∃ i, FieldClamped image i) ∧ (loaderFrom image).record = c ∧
      (10 ≤ c.demandPeriod ∧ c.demandPeriod ≤ 60) ∧ (c.boostCeiling ≤ c.mMax ∨ (u16 image 20 = 65535 ∧ c.boostCeiling = 100)) ∧
      (5 ≤ c.vacancyHold ∧ c.vacancyHold ≤ 30) ∧ (30 ≤ c.overrunLimit ∧ c.overrunLimit ≤ 240) ∧
      (30 ≤ c.statusPeriod ∧ c.statusPeriod ≤ 300) ∧ (1 ≤ c.loopGain ∧ c.loopGain ≤ 64) ∧
      (150 ≤ c.glareThreshold ∧ c.glareThreshold ≤ 800) ∧
      (20 ≤ c.hysteresis ∧ c.hysteresis ≤ 300 ∧ c.hysteresis ≤ c.glareThreshold - 10) ∧
      (∀ b, (20 ≤ (c.banks.get b).travel ∧ (c.banks.get b).travel ≤ 180) ∧
        (40 ≤ (c.banks.get b).glarePos ∧ (c.banks.get b).glarePos ≤ 100) ∧
        (c.banks.get b).screenSide = decide (byteAt image (33 + 3 * (b.number - 1)) = 1)) ∧
      (c.scenes.length = 7 ∧ ∀ sc ∈ c.scenes, sc.front ≤ 1000 ∧ sc.rest ≤ 1000) ∧
      (∀ n : Fin 7, (sceneOf c (n + 1)).policy =
        if byteAt image (49 + 5 * n) = 1 then .project else if byteAt image (49 + 5 * n) = 2 then .openUp else .followGlare) ∧
      ∀ k, (c.events.get k).priority ≤ 7 ∧
        (c.events.get k =
          if image.getD (79 + k.number) 0 &&& 0x78#8 = 0 then
            ⟨!bitAt image (79 + k.number) 7, byteAt image (79 + k.number) % 8⟩
          else EventConfig.defaults.get k)

/-! ## Frames (R163 to R167) -/

/-- A frame that fails a test of R164 has no effect; one whose class is above its kind's requirement is recorded in the Peer Table
and refused with OVERRIDE_REFUSED, PRIVILEGE, and has no other effect (R165)
but that of recording its source (R166; log entry 28). -/
def Obligations.FramesNotTakenHaveNoOtherEffect : Prop :=
  ∀ (c : Instr) (f : Frame) (kind required : Nat) (s : State), c.asFrame = some (f, kind, required) →
    (f.overlapsOwn = true ∨ f.src.toNat = 0 ∨ 126 < f.src.toNat ∨ f.src.toNat = s.cfg.station → exec c s = .next s) ∧
      (Heard s f → required < f.cls.toNat →
        ∃ t, exec c s = .next t ∧ Latched s t (.overrideRefused f.src.toNat (.frame kind) .privilege) ∧
          t.peers = (s.recordPeer f.src.toNat).peers ∧ Changes ([.queue, .latches] ++ s.recordingParts f) s t)

/-- A frame of a kind the node does not take records its source and does nothing else (R165, R166): a held record is refreshed, a
new one is put in while the table has room, and in a full table it takes the place of the record silent for longest, the lowest
address first, if that is silent for more than 3 × T_d; where that is the partner's, the own record is evaluated afresh (R71; log
entry 28). A QUERY for this station, for all, or for this room queues IDENTITY (R180). That silence is compared in whole seconds is
the model's choice (log entry 24). -/
def Obligations.OtherFramesAndQueriesRecordTheirSource : Prop :=
  (∀ (kind : BitVec 6) (f : Frame) (s : State), Heard s f →
    ∃ t, exec (.otherFrame kind f) s = .next t ∧ Changes (s.recordingParts f) s t ∧
      ((∃ p ∈ s.peers, p.address = f.src.toNat) → Changes [.peers] s t ∧
        t.peers = s.peers.map fun p => if p.address = f.src.toNat then { p with heardAt := s.now } else p) ∧
      ((∀ p ∈ s.peers, p.address ≠ f.src.toNat) → s.peers.length < 48 → Changes [.peers] s t ∧
        ∀ p, p ∈ t.peers ↔ p ∈ s.peers ∨ p = ⟨f.src.toNat, s.now, none, none⟩) ∧
      ((∀ p ∈ s.peers, p.address ≠ f.src.toNat) → 48 ≤ s.peers.length →
        (∀ p ∈ s.peers, s.silence p ≤ 3 * s.cfg.demandPeriod) → t = s) ∧
      ((∀ p ∈ s.peers, p.address ≠ f.src.toNat) → 48 ≤ s.peers.length →
        (∃ p ∈ s.peers, 3 * s.cfg.demandPeriod < s.silence p) →
        ∃ v ∈ s.peers, 3 * s.cfg.demandPeriod < s.silence v ∧
          (∀ w ∈ s.peers, s.silence w < s.silence v ∨ (s.silence w = s.silence v ∧ v.address ≤ w.address)) ∧
          (∀ p, p ∈ t.peers ↔ (p ∈ s.peers ∧ p.address ≠ v.address) ∨ p = ⟨f.src.toNat, s.now, none, none⟩) ∧
          (v.address = s.cfg.partner → t.heldRecord = t.ownRecord) ∧
          (v.address ≠ s.cfg.partner → Changes [.peers] s t))) ∧
  (∀ (f : Frame) (s : State) (address room : Nat), Taken s f 3 → decodeQuery f.payload = some (address, room) →
    ∃ t, exec (.query f) s = .next t ∧ Changes (.queue :: s.recordingParts f) s t ∧
      (address = s.cfg.station ∨ address = 127 ∨ room = s.cfg.room →
        s.link.queue.length < 7 ∨ (s.link.queue.length < 8 ∧ s.losesPartnerMax f.src.toNat = false) →
        t.isQueued .identity = true) ∧
      (address ≠ s.cfg.station → address ≠ 127 → room ≠ s.cfg.room → Changes (s.recordingParts f) s t))

/-- The receive path (R163). Hunting, it ignores every byte but the delimiter 96h, which opens a frame; a frame is gathered byte by
byte and ends when its length field is above 24 or when all that the length field calls for have come, and its command then waits.
Every frame that a station sends (R188) arrives so, whatever its payload. A completed frame that fails a check, or one left open on
the idle line, latches LINK_FAULT with the type of the first failure and the source byte, or 0, and has no other effect. How bytes
reach the path, and that a discarded or a timed-out frame may also be handed over whole, is the model's choice (log entry 11), and so
is that a delimiter opens a frame without a test that the line was idle (log entry 32). -/
def Obligations.DiscardedFramesLatchLinkFault : Prop :=
  (∀ (s : State) (b : LineByte),
    (s.isRunning = false → s.hearByte b = s) ∧
    (s.isRunning = true → s.link.receiver = none →
      (b.value ≠ 0x96#8 → s.hearByte b = s) ∧
      (b.value = 0x96#8 → s.hearByte b = { s with link := { s.link with receiver := some ⟨[], b.badStop⟩ } })) ∧
    (s.isRunning = true → ∀ g, s.link.receiver = some g →
      let bytes := g.bytes ++ [b.value]
      let bad := g.badStop || b.badStop
      let ended := 3 ≤ bytes.length ∧ (24 < byteAt bytes 2 ∨ byteAt bytes 2 + 5 ≤ bytes.length)
      (ended → s.hearByte b =
        { s with link := { s.link with receiver := none }, pending := s.pending ++ [frameCommand bytes bad false] }) ∧
      (¬ ended → s.hearByte b = { s with link := { s.link with receiver := some ⟨bytes, bad⟩ } }))) ∧
  (∀ (s : State) (source cls kind : Nat) (payload : List Byte), s.isRunning = true → s.link.receiver = none →
    source < 256 → cls < 4 → kind < 64 → payload.length ≤ 24 →
    ((frameOnLine source cls kind payload).map fun b => LineByte.mk b false).foldl State.hearByte s =
      { s with pending := s.pending ++
        [kindCommand (BitVec.ofNat 6 kind) ⟨BitVec.ofNat 8 source, BitVec.ofNat 2 cls, payload, false⟩] }) ∧
  ∀ (bytes : List Byte) (badStop : Bool) (s : State), s.isRunning = true →
    (∀ fault, frameFault bytes badStop = some fault →
      ∃ t, exec (.frameDiscard bytes badStop) s = .next t ∧
        Latched s t (.linkFault fault (byteAt bytes 0)) ∧ Changes [.queue, .latches] s t) ∧
      (∀ g, s.link.receiver = some g →
        ∃ t, exec (.frameIdleTimeout bytes badStop) s = .next t ∧ t.link.receiver = none ∧
          Latched s t (.linkFault (if g.badStop then .framing else .length) (byteAt g.bytes 0)) ∧
          Changes [.receiver, .queue, .latches] s t) ∧
      (s.link.receiver = none → frameComplete bytes = false →
        ∃ t, exec (.frameIdleTimeout bytes badStop) s = .next t ∧
          Latched s t (.linkFault (if badStop then .framing else .length) (byteAt bytes 0)) ∧
          Changes [.queue, .latches] s t) ∧
      (badStop = true → frameFault bytes badStop = some .framing) ∧
      (badStop = false → 24 < byteAt bytes 2 → frameFault bytes badStop = some .length)

/-! ## Reset, configuration and the beginning of running (R182 to R186) -/

/-- NRST asserted ends whatever the node was doing and puts the outputs at their reset levels; its negation begins the first attempt
of a power-on read. A failed attempt is followed 10 ms later by the next, and the third by CONFIG_FAULT with its fixed outputs, from
whose retry timer a new read begins (R182, R183). The times at which attempts and the retry begin (log entry 1) and the select lines
standing in CONFIG_FAULT (log entry 24) are the model's choices. -/
def Obligations.ResetAndReadAttemptsRunTheirCourse : Prop :=
  (∀ s : State, exec .nrstAsserted s =
    .next
      { State.reset with
        now := s.now, phase := .inReset, loader := s.loader, pins := s.pins, clock := Clock.powerOn s.now
        draws := s.draws, line := s.line, pending := s.pending }) ∧
  (∀ s : State, s.phase = .inReset → exec .nrstNegated s = .next { s with phase := .reading .powerOn 1 s.now }) ∧
  (∀ (s : State) cause n begins, s.phase = .reading cause n begins → n < 3 →
    ∃ t, exec .configAttemptFailed s = .next t ∧ t.now = max s.now begins ∧
      t.phase = .reading cause (n + 1) (t.now + 10) ∧ Changes [.now, .phase] s t) ∧
  (∀ (s : State) cause begins, s.phase = .reading cause 3 begins →
    ∃ t, exec .configAttemptFailed s = .next t ∧ t.now = max s.now begins ∧ t.phase = .configFault (t.now + 60000) ∧
      t.out = { dim1 := if s.pins.fire then 1000 else 500, dim2 := if s.pins.fire then 1000 else 500
                dmp := if s.pins.fire then 0 else 250, motorUp := false, motorDown := false, selected := s.out.selected } ∧
      t.link = Link.powerOn ∧ t.peers = [] ∧ t.clock = Clock.powerOn t.now ∧ t.sessions = Sessions.powerOn ∧
      t.drive = Drive.powerOn ∧ t.overrides = Overrides.powerOn ∧ t.pair = Pair.powerOn ∧ t.loader = s.loader) ∧
  (∀ (s : State) due, s.phase = .configFault due →
    ∃ t, exec .configRetryExpiry s = .next t ∧ t.now = max s.now due ∧ t.phase = .reading .retry 1 t.now ∧
      Changes [.now, .phase] s t)

/-- A read that completes at a power-on start or a retry begins running from power-on values, with the record of the image, the
reports of R185 queued, CONFIG_CLAMPED latched with the first clamped index, and the timers started (R182 to R185). That the
completion lies no earlier than the beginning of its attempt (log entry 1), and that the seconds begin when running begins (log
entry 18), are the model's choices. -/
def Obligations.ACompletedReadBeginsRunningAfresh : Prop :=
  ∀ (s : State) cause n begins (image : List Byte), s.phase = .reading cause n begins → cause ≠ .softRestart →
    ∃ t, exec (.configReadComplete image) s = .next t ∧ t.now = max s.now begins ∧ t.phase = .running ∧
      t.loader = loaderFrom image ∧
      t.isQueued .identity = true ∧ t.isQueued .demand = true ∧ t.isQueued .roomStatus = true ∧
      (∀ i, t.loader.firstClamped = some i → t.link.latches.configClamped = some ⟨.configClamped i, 1, none⟩) ∧
      (t.loader.firstClamped = none → t.link.latches.configClamped = none) ∧
      t.clock = Clock.powerOn t.now ∧ t.peers = [] ∧ t.sessions = Sessions.powerOn ∧ t.room = Room.powerOn ∧
      t.pair.state = .single ∧ t.pair.debounceDue = (if s.pins.partOpen then some (t.now + 5000) else none) ∧
      t.overrides.lifeSafety = formedMode .off s.pins.fire ∧
      t.overrides.records = ⟨none, none, none, none, none⟩ ∧ t.overrides.frameMode = .off ∧ t.overrides.hold = false ∧
      t.overrides.sending = none ∧ t.overrides.indicatorWaiting = none ∧
      t.evidence.headcount = 0 ∧ t.evidence.lastEvidence = none ∧ t.evidence.confirmMark = none ∧ t.evidence.window = none ∧
      t.evidence.co2 = none ∧ t.evidence.co2Fault = false ∧
      t.evidence.photo.held = none ∧ t.evidence.photo.run = none ∧ t.evidence.photo.fault = false ∧
      t.evidence.irrad.held = none ∧ t.evidence.irrad.run = none ∧ t.evidence.irrad.fault = false ∧
      (∀ b, t.evidence.stuckMark.get b = false) ∧ t.shade.glare = false ∧ t.shade.dwellDue = none ∧
      t.air.capacityKnown = false ∧ t.air.lastPublished = none ∧
      t.drive.pos = ⟨0, 0, 0⟩ ∧ t.drive.uncertain = ⟨true, true, true⟩ ∧
      (∀ b, t.evidence.stuckDue.get b = if s.pins.broken.get b then some (t.now + 60000) else none) ∧
      t.evidence.co2Due = t.now + 10000 ∧ t.evidence.photo.sampleDue = t.now + 2000 ∧
      t.evidence.irrad.sampleDue = t.now + 10000 ∧ t.link.runningSince = t.now ∧
      t.link.statusDue = t.now + 1000 * t.cfg.statusPeriod ∧ t.air.demandDue = t.now + 1000 * t.cfg.demandPeriod

/-- The state that derivation gives a room at a wing minute, its first record and whether evidence is fresh (R59). -/
def derivedOccupancy (minute : Nat) (first : Option Session) (fresh : Bool) : Occupancy :=
  match first with
  | none => if fresh then .adhoc else .vacant
  | some r =>
    if minute < r.start - r.lead then (if fresh then .adhoc else .vacant)
    else if fresh then .occupied
    else if minute < r.start then .precondition
    else if r.start + r.grace ≤ minute ∧ r.kind ≠ .exam then .released
    else .expected

/-- A read that completes at a soft restart begins running with the clock, the session records not ended and the frame life-safety
mode kept, the override records, the hold, the pair and the evidence reset, and the occupancy state derived (R8, R59, R186). That
the completion lies no earlier than the beginning of its attempt (log entry 1) and that the clock stands at it (log entry 18) are
the model's choices. -/
def Obligations.ACompletedReadEndsASoftRestart : Prop :=
  ∀ (s : State) n begins (image : List Byte), s.phase = .reading .softRestart n begins → QueueOk s →
    ∃ t, exec (.configReadComplete image) s = .next t ∧ t.now = max s.now begins ∧ t.phase = .running ∧
      t.loader = loaderFrom image ∧
      t.isQueued .identity = true ∧ t.isQueued .demand = true ∧ t.isQueued .roomStatus = true ∧
      t.clock = s.clock ∧ t.sessions.transfer = none ∧
      t.sessions.records =
        ((if s.clock.timeValid then s.sessions.records.filter (fun r => s.clock.minute < r.finish)
          else s.sessions.records).map (Session.markAfresh s.clock.minute)) ∧
      (∀ x, s.sessions.transfer = some x → Latched s t (.ttDone x.generation x.accepted x.remaining .restart)) ∧
      t.room.mirroredId = none ∧
      t.room.occupancy =
        (if s.clock.timeValid then derivedOccupancy s.clock.minute t.sessions.records.head? false else .vacant) ∧
      t.room.current = (if t.room.occupancy.hasRecord then t.sessions.records.head?.map (·.id) else none) ∧
      t.overrides.records = ⟨none, none, none, none, none⟩ ∧ t.overrides.hold = false ∧
      t.overrides.frameMode = s.overrides.frameMode ∧
      t.overrides.lifeSafety = formedMode s.overrides.frameMode s.pins.fire ∧
      t.pair.state = .single ∧ t.pair.readsOpen = false ∧ t.evidence.headcount = 0 ∧ t.evidence.lastEvidence = none ∧
      t.air.capacityKnown = false ∧ t.air.lastPublished = none

/-- An accepted RESTART stops the link and the drive, clears the queue, the latches and the Peer Table, and begins the read; the
dimming and damper outputs, the clock and the session records stand (R128, R161, R181, R186). -/
def Obligations.RestartStopsTheNodeAndReads : Prop :=
  ∀ (f : Frame) (s : State) (target : Nat), Taken s f 1 → decodeRestart f.payload = some target →
    ∃ t, exec (.restart f) s = .next t ∧
      (target = s.cfg.station ∨ target = 127 →
        t.phase = .reading .softRestart 1 s.now ∧ t.link.receiver = none ∧ t.link.queue = [] ∧ t.link.attempt = none ∧ t.link.backoff = none ∧
        t.link.longPause = none ∧ (∀ k, t.link.latches.get k = none) ∧ t.peers = [] ∧ t.drive.move = none ∧
        (∀ b, t.drive.waiting.get b = none) ∧ t.overrides.indicatorWaiting = none ∧
        (∀ b, t.drive.pos.get b = s.currentPosition b) ∧ t.drive.uncertain = s.drive.uncertain ∧
        (s.drive.move.isSome = true → t.out.motorUp = false ∧ t.out.motorDown = false) ∧
        Changes ([.phase, .peers, .receiver, .attempt, .pauses, .queue, .latches, .drive, .motor, .indicator] ++ s.recordingParts f) s t) ∧
      (target ≠ s.cfg.station → target ≠ 127 → Changes (s.recordingParts f) s t)

/-! ## The clock and the Session Table (R1 to R25) -/

/-- An armed record's point is due: it is untaken and falls at this minute (R9, R11). -/
def Due (s : State) (p : Point) (r : Session) : Prop :=
  (s.currentRecord = some r ∨ s.nextRecord = some r) ∧ r.taken p = false ∧ r.minuteOf p = s.clock.minute

/-- The place of a point in the order in which a minute's points are taken (R11). -/
def pointRank : Point → Nat
  | .pointE => 0
  | .pointA => 1
  | .pointB => 2
  | .pointG => 3

/-- A minute boundary of the running node: the wing minute advances, or wraps to 0 after the last, the next boundary lies a minute
on, the points of the minute reached are taken in the order E, A, B, G, the earlier record first, each with its full effect before
the next, and the override records that expire at it are gone (R1, R6, R11, R12, R152). So a changeover at one minute ends the old
session and begins the next. While a soft restart reads its image the clock alone advances (log entry 18), and in the other
stopped phases nothing does. That the points of a minute are taken before its expiries (log entry 8), and that an expiry is taken at
the later of the present time and its due time (log entry 1), are the model's choices. -/
def Obligations.MinuteBoundaryAdvancesTheClock : Prop :=
  let reached (s : State) : State :=
    { s with
      now := max s.now s.clock.boundaryDue
      clock := ⟨if s.clock.minute < maxMinute then s.clock.minute + 1 else 0, s.clock.boundaryDue + 60000, s.clock.timeValid⟩ }
  (∀ s : State, s.isRunning = true →
    (s.clock.minute < maxMinute → exec .minuteBoundary s = .next (reached s).takePoints.expireRecords) ∧
    (¬ s.clock.minute < maxMinute → exec .minuteBoundary s = .next (reached s)) ∧
    ∃ t, exec .minuteBoundary s = .next t ∧ t.now = (reached s).now ∧ t.clock = (reached s).clock ∧
      (s.clock.minute < maxMinute → ∀ q r m, t.overrides.records.get q = some r → r.expiry = some m → t.clock.minute < m) ∧
      (s.clock.timeValid = false → t.sessions = s.sessions ∧ t.room = s.room ∧ t.evidence = s.evidence)) ∧
  (∀ s : State, s.isRunning = false →
    ((∃ n b, s.phase = .reading .softRestart n b) → exec .minuteBoundary s = .next (reached s)) ∧
    ((∀ n b, s.phase ≠ .reading .softRestart n b) → exec .minuteBoundary s = .next s)) ∧
  (∀ s : State,
    (s.clock.timeValid = false → s.takePoints = s) ∧
    ((∀ p r, ¬ Due s p r) → s.takePoints = s) ∧
    (∀ p r, RoomOk s → s.clock.timeValid = true → Due s p r →
      (∀ p' r', Due s p' r' → pointRank p < pointRank p' ∨ (p' = p ∧ r.start ≤ r'.start)) →
      s.takePoints = (s.deliver p r.id).armNext.takePoints)) ∧
  (∀ (s : State) (r n : Session), s.isRunning = true → RoomOk s → s.clock.timeValid = true → s.clock.minute < maxMinute →
    s.currentRecord = some r → s.nextRecord = some n → r.takenE = false → r.finish = s.clock.minute + 1 →
    n.start = s.clock.minute + 1 →
    ∃ t, exec .minuteBoundary s = .next t ∧ t.room.current = some n.id ∧ (∀ h ∈ t.sessions.records, h.id ≠ r.id) ∧
      t.room.occupancy =
        (if s.evidence.lastEvidence.any (fun e => t.now - e < 60000 * s.cfg.vacancyHold) then .occupied else .expected) ∧
      Latched s t (.sessionEnd r.id false) ∧ Latched s t (.sessionBegin n.id))

/-- A TIME frame sets the wing minute and the seconds and makes the time valid; at a backward step, or none, nothing else changes;
one with a minute of day above 1439 or a second above 59 is ignored (R2, R4). A forward step reaches every minute in turn (R3): a
step of one minute does what a minute boundary does, and a step may be made in two frames. That the next boundary lies 60 s less
the seconds ahead is the model's choice (log entry 10). At the first valid time the ended records leave, the taken marks are set
afresh, and the occupancy state is derived, but for a joined follower, which keeps its mirrored state (R5, R59, R60). -/
def Obligations.TimeFramesSetTheClockAndDerive : Prop :=
  (∀ (f : Frame) (s : State) (v : TimeFields), Taken s f 2 → decodeTime f.payload = some v →
    ∃ t, exec (.time f) s = .next t ∧
      (v.minuteOfDay ≤ 1439 → v.second ≤ 59 →
        t.clock = ⟨v.day * 1440 + v.minuteOfDay, s.now + 1000 * (60 - v.second), true⟩) ∧
      (v.minuteOfDay ≤ 1439 → v.second ≤ 59 → s.clock.timeValid = true → v.day * 1440 + v.minuteOfDay ≤ s.clock.minute →
        Changes (.clock :: s.recordingParts f) s t) ∧
      (1439 < v.minuteOfDay ∨ 59 < v.second → Changes (s.recordingParts f) s t)) ∧
  (∀ (f : Frame) (s : State) (v : TimeFields), Taken s f 2 → decodeTime f.payload = some v → v.minuteOfDay ≤ 1439 →
    v.second ≤ 59 → s.clock.timeValid = false →
    let m := v.day * 1440 + v.minuteOfDay
    let kept := s.sessions.records.filter fun r => m < r.finish
    ∃ t, exec (.time f) s = .next t ∧ t.sessions.records = kept.map (Session.markAfresh m) ∧
      (s.isFollower = true → t.room.occupancy = s.room.occupancy) ∧
      (s.isFollower = false → (s.room.occupancy = .vacant ∨ s.room.occupancy = .adhoc) →
        t.room.occupancy = derivedOccupancy m kept.head? s.fresh)) ∧
  (∀ (f : Frame) (s : State) (v : TimeFields), Taken s f 2 → decodeTime f.payload = some v → v.minuteOfDay ≤ 1439 →
    v.second ≤ 59 → s.clock.timeValid = true → v.day * 1440 + v.minuteOfDay = s.clock.minute + 1 → 1000 * v.second ≤ s.now →
    exec (.time f) s =
      exec .minuteBoundary
        { s.recordPeer f.src.toNat with clock := ⟨s.clock.minute, s.now - 1000 * v.second, true⟩ }) ∧
  (∀ (f g : Frame) (s t : State) (v w : TimeFields), Taken s f 2 → Taken s g 2 → f.src = g.src →
    decodeTime f.payload = some v → decodeTime g.payload = some w → v.minuteOfDay ≤ 1439 → v.second ≤ 59 →
    w.minuteOfDay ≤ 1439 → w.second = v.second → s.clock.timeValid = true →
    s.clock.minute ≤ v.day * 1440 + v.minuteOfDay → v.day * 1440 + v.minuteOfDay ≤ w.day * 1440 + w.minuteOfDay →
    exec (.time f) s = .next t → exec (.time g) t = exec (.time g) s)

/-- A TT_BEGIN opens its transfer, an open one ending as SUPERSEDED; without REPLACE the records stand, and with it only records
that start at or before now, or the current one, remain, and none while the time is not valid; the record that is next then has its
late points delivered (R6, R12, R23). The silence timer closes a transfer as TIMEOUT (R25). That an expiry is taken at the later of
the present time and its due time is the model's choice (log entry 1). -/
def Obligations.TransfersBeginAndTimeOut : Prop :=
  (∀ (f : Frame) (s : State) (v : TtBeginFields), Taken s f 2 → decodeTtBegin f.payload = some v →
    ∃ t, exec (.ttBegin f) s = .next t ∧
      t.sessions.transfer =
        some
          { source := f.src.toNat, generation := v.generation, index := 0
            remaining := if v.count = 0 then 32 else min 32 v.count, accepted := 0, silenceDue := s.now + 5000 } ∧
      (v.replace = false → Changes ([.transfer, .queue, .latches] ++ s.recordingParts f) s t) ∧
      (∀ x, s.sessions.transfer = some x → Latched s t (.ttDone x.generation x.accepted x.remaining .superseded)) ∧
      (v.replace = true → s.clock.timeValid = true →
        let kept := s.sessions.records.filter fun r => r.start ≤ s.clock.minute ∨ s.room.current = some r.id
        (∃ u : State, Changes ([.records, .transfer, .queue, .latches] ++ s.recordingParts f) s u ∧ u.sessions.records = kept ∧
          t = u.armNext) ∧
        ((∀ r ∈ kept, s.room.current = some r.id ∨ (r.takenA = true ∧ r.takenB = true ∧ r.takenG = true)) →
          t.sessions.records = kept ∧ Changes ([.records, .transfer, .queue, .latches] ++ s.recordingParts f) s t) ∧
        (RoomOk s → s.room.occupancy = .precondition ∨ s.room.occupancy = .expected ∨ s.room.occupancy = .occupied →
          t.sessions.records.map (·.id) = kept.map (·.id) ∧ t.room = s.room)) ∧
      (v.replace = true → ∀ r ∈ t.sessions.records, ∃ r₀ ∈ s.sessions.records,
        r₀.id = r.id ∧ (r₀.start ≤ s.clock.minute ∨ s.room.current = some r₀.id)) ∧
      (v.replace = true → s.clock.timeValid = false → t.sessions.records = [])) ∧
  (∀ (s : State) (x : Transfer), s.isRunning = true → s.sessions.transfer = some x →
    ∃ t, exec .silenceTimerExpiry s = .next t ∧ t.now = max s.now x.silenceDue ∧ t.sessions.transfer = none ∧
      Latched s t (.ttDone x.generation x.accepted x.remaining .timeout) ∧ Changes [.now, .transfer, .queue, .latches] s t)

/-- From the first state to the second, the open transfer has gone on by an entry, which counts as merged or not (R21, R24): with
entries still to come its silence timer is restarted, and with the last one it has closed as COMPLETE. -/
def EntryCounted (s t : State) (merged : Bool) : Prop :=
  ∀ x, s.sessions.transfer = some x →
    let accepted := x.accepted + if merged then 1 else 0
    (2 ≤ x.remaining →
      t.sessions.transfer =
        some { x with index := x.index + 1, remaining := x.remaining - 1, accepted := accepted, silenceDue := s.now + 5000 }) ∧
    (x.remaining ≤ 1 → t.sessions.transfer = none ∧ Latched s t (.ttDone x.generation accepted 0 .complete))

/-- Entries of the open transfer are still to come after the next one (R24). -/
def MoreToCome (s : State) : Prop := ∃ x, s.sessions.transfer = some x ∧ 2 ≤ x.remaining

/-- A TT_ENTRY against the open transfer (R24): without a transfer, of another source or of another generation it is ignored; out of
sequence it closes the transfer with INDEX_GAP; in sequence it is counted and the silence timer restarted, an entry for another
room having no further effect, and the last one closing the transfer as COMPLETE. An entry for this room is merged (R15, R18 to
R21): a session id of 0, an unknown kind or policy, a scene above 7, an end at or before the start or more than 600 minutes after it,
and a minute above the last refuse it with BAD_FIELD; lead, grace, attendance and trim are clamped (R15, R190); and a new session is
refused as PAST or OVERLAP, or, before the first valid time and with no current record, is placed in order and counted. The last
entry closes the transfer as COMPLETE, merged or refused, with the accepted count that takes it in (R24). The other ways of the merge
are the next statement's. -/
def Obligations.TransferEntriesAreCountedAndMerged : Prop :=
  (∀ (f : Frame) (s : State) (e : TtEntryFields), Taken s f 2 → decodeTtEntry f.payload = some e →
    ∃ t, exec (.ttEntry f) s = .next t ∧
      (s.sessions.transfer = none → Changes (s.recordingParts f) s t) ∧
      ∀ x, s.sessions.transfer = some x →
        (f.src.toNat ≠ x.source ∨ e.generation ≠ x.generation → Changes (s.recordingParts f) s t) ∧
        (f.src.toNat = x.source → e.generation = x.generation → e.index ≠ x.index →
          t.sessions.transfer = none ∧ Latched s t (.ttDone x.generation x.accepted x.remaining .indexGap) ∧
            Changes ([.transfer, .queue, .latches] ++ s.recordingParts f) s t) ∧
        (f.src.toNat = x.source → e.generation = x.generation → e.index = x.index → s.entryScope e.room = none →
          (2 ≤ x.remaining →
            t.sessions.transfer =
              some { x with index := x.index + 1, remaining := x.remaining - 1, silenceDue := s.now + 5000 } ∧
            Changes (.transfer :: s.recordingParts f) s t) ∧
          (x.remaining = 1 →
            t.sessions.transfer = none ∧ Latched s t (.ttDone x.generation x.accepted 0 .complete) ∧
            Changes ([.transfer, .queue, .latches] ++ s.recordingParts f) s t))) ∧
  (∀ (f : Frame) (s : State) (e : TtEntryFields) (x : Transfer) (scope : Scope), Taken s f 2 →
    decodeTtEntry f.payload = some e → s.sessions.transfer = some x → f.src.toNat = x.source →
    e.generation = x.generation → e.index = x.index → s.entryScope e.room = some scope →
    ∃ t, exec (.ttEntry f) s = .next t ∧
      (e.session? scope = none →
        Latched s t (.ttRefused e.session .badField) ∧ EntryCounted s t false ∧ Changes ([.transfer, .queue, .latches] ++ s.recordingParts f) s t) ∧
      ∀ r, e.session? scope = some r → s.recordOf r.id = none → s.room.current = none →
        (s.clock.timeValid = true → r.finish ≤ s.clock.minute →
          Latched s t (.ttRefused r.id .past) ∧ EntryCounted s t false ∧ ∀ h ∈ t.sessions.records, h.id ≠ r.id) ∧
        (s.clock.timeValid = false → (∃ h ∈ s.sessions.records, h.start < r.finish ∧ r.start < h.finish) →
          Latched s t (.ttRefused r.id .overlap) ∧ EntryCounted s t false ∧
            Changes ([.transfer, .queue, .latches] ++ s.recordingParts f) s t) ∧
        (s.clock.timeValid = false → (∀ h ∈ s.sessions.records, r.finish ≤ h.start ∨ h.finish ≤ r.start) →
          s.sessions.records.length < 16 →
          t.sessions.records = insertSession r s.sessions.records ∧ EntryCounted s t true ∧
          (MoreToCome s → Changes ([.transfer, .records] ++ s.recordingParts f) s t) ∧
          Changes ([.transfer, .records, .queue, .latches] ++ s.recordingParts f) s t)) ∧
  ∀ (e : TtEntryFields) (scope : Scope),
    let bad := e.session = 0 ∨ 3 < e.kind ∨ (e.prefPresent = true ∧ 2 < e.prefPolicy) ∨ 7 < e.scene ∨ e.finish ≤ e.start ∨
      600 < e.finish - e.start ∨ maxMinute < e.start ∨ maxMinute < e.finish
    (bad → e.session? scope = none) ∧
    (¬ bad → ∃ r, e.session? scope = some r ∧ r.id = e.session ∧ r.start = e.start ∧ r.finish = e.finish ∧ r.scope = scope ∧
      r.kind = (if e.kind = 0 then .lecture else if e.kind = 1 then .seminar else if e.kind = 2 then .exam else .event) ∧
      r.expected = min 511 e.expected ∧ r.scene = e.scene ∧ r.lead = min 120 e.lead ∧ r.grace = max 5 (min 30 e.grace) ∧
      r.pref = (if e.prefPresent then
        some ⟨clampInt (-300) 300 e.trim, if e.prefPolicy = 0 then .noPolicy else if e.prefPolicy = 1 then .openUp else .project⟩
      else none) ∧
      r.takenA = decide (e.lead = 0) ∧ r.takenB = false ∧ r.takenG = decide (e.kind = 2) ∧ r.takenE = false)

/-- From the first state to the second, the current record is retired (R13, R51, R52, R56): it leaves, and the following record is
current, EXPECTED with its SESSION_BEGIN where it has begun and PRECONDITION where its A is reached, OCCUPIED in either case while
evidence is fresh; with no such record the room is OVERRUN while evidence is fresh and VACANT otherwise. The points of a new current
record at or before now are taken. `atEnd` says that an overrun is reported. -/
def Retired (s t : State) (r : Session) (atEnd : Bool) : Prop :=
  let rest := s.sessions.records.filter fun h => h.id ≠ r.id
  let follows (n : Session) (o : Occupancy) :=
    t.room.current = some n.id ∧ t.room.occupancy = (if s.fresh then .occupied else o) ∧ t.room.overrunDue = none ∧
      Latched s t (.sessionEnd r.id false)
  let ends :=
    t.room.current = none ∧
      (s.fresh = true →
        t.room.occupancy = .overrun ∧ t.room.overrunScene = some r.scene ∧
        t.room.overrunDue = some (s.now + 60000 * s.cfg.overrunLimit) ∧ Latched s t (.overrun r.id) ∧
        Latched s t (.sessionEnd r.id atEnd)) ∧
      (s.fresh = false → t.room.occupancy = .vacant ∧ Latched s t (.sessionEnd r.id false))
  t.sessions.records.map (·.id) = rest.map (·.id) ∧
    (∀ n ∈ t.sessions.records, t.room.current = some n.id → ∀ p, n.minuteOf p ≤ s.clock.minute → n.taken p = true) ∧
    match rest.head? with
    | none => ends
    | some n =>
      (n.start ≤ s.clock.minute → follows n .expected ∧ Latched s t (.sessionBegin n.id)) ∧
        (s.clock.minute < n.start → n.start - n.lead ≤ s.clock.minute → follows n .precondition) ∧
        (s.clock.minute < n.start - n.lead → ends)

/-- A TT_ENTRY frame for this room is in the sequence of the open transfer and describes a record (R15, R24). -/
structure EntryOffered (s : State) (f : Frame) (r : Session) : Prop where
  taken : Taken s f 2
  offered : ∃ e x scope, decodeTtEntry f.payload = some e ∧ s.sessions.transfer = some x ∧ f.src.toNat = x.source ∧
    e.generation = x.generation ∧ e.index = x.index ∧ s.entryScope e.room = some scope ∧ e.session? scope = some r

/-- A held record is the one an entry describes, whatever its taken marks. -/
def SameEntry (h r : Session) : Prop :=
  { h with takenA := r.takenA, takenB := r.takenB, takenG := r.takenG, takenE := r.takenE } = r

/-- The readers of the current record have it as it stands (R7, R71, R96, R97, R107). -/
def ReadersTookIt (t : State) : Prop := t.heldRecord = t.ownRecord ∧ ViewsOk t

/-- From the first state to the second, a PRECONDITION mark was evaluated afresh over a table (R20): the earliest record is marked
where its A is reached, its B and G acting where they are late too, and otherwise the room is VACANT. -/
def MarkReevaluated (s t : State) (table : List Session) : Prop :=
  ReadersTookIt t ∧
    match table with
    | [] => t.room.occupancy = .vacant ∧ t.room.current = none
    | h :: rest =>
      let m := s.clock.minute
      (m < h.start - h.lead → t.room.occupancy = .vacant ∧ t.room.current = none) ∧
        (h.start - h.lead ≤ m → m < h.start → t.room.occupancy = .precondition ∧ t.room.current = some h.id) ∧
        (h.start ≤ m → h.takenB = false → h.takenG = true ∨ m < h.start + h.grace →
          t.room.occupancy = .expected ∧ t.room.current = some h.id ∧ Latched s t (.sessionBegin h.id)) ∧
        (h.start + h.grace ≤ m → h.takenB = false → h.takenG = false → (∀ x ∈ rest, m < x.start - x.lead) →
          t.room.occupancy = .released ∧ t.room.current = some h.id ∧ Latched s t (.sessionBegin h.id) ∧
            Latched s t (.release h.id .noShow))

/-- An entry that describes a record is merged (R16 to R21). It updates the running current record of its id, unless it moves the
start or reaches into the next record (OVERLAP), the level-3 records that end with it moving with its end (R152), and an end at or
before now ends those records and retires it (R16). The last entry of the transfer closes it as COMPLETE (R24). Otherwise a held record of
its id leaves, even where the entry is refused (R17), as PAST, as OVERLAP, or as FULL behind sixteen others (R18, R19); an entry
that is placed stands in order, unless its late G and the next record's late A end it at once (R12, R51), and in a full table the
last record goes for it (R19, R20). In PRECONDITION a mark whose record is no longer the earliest, or was replaced, is evaluated
afresh (R20). That an entry before a current record is refused whether or not that has begun (log entry 9), and that the readers
take a replaced record afresh (log entry 26), is read from the spec by inference. -/
def Obligations.EntriesAreMergedIntoTheTable : Prop :=
  ∀ (f : Frame) (s : State) (r : Session), RoomOk s → EntryOffered s f r →
    let m := s.clock.minute
    let others := s.sessions.records.filter fun h => h.id ≠ r.id
    let placed := insertSession r (if 16 ≤ others.length then others.dropLast else others)
    let past := s.clock.timeValid = true ∧ r.finish ≤ m
    let overlap := (∃ h ∈ others, h.start < r.finish ∧ r.start < h.finish) ∨
      (s.room.occupancy.runs = true ∧ ∃ c, s.currentRecord = some c ∧ r.start < c.start)
    let full := 16 ≤ others.length ∧ ∃ l, others.getLast? = some l ∧ l.start < r.start
    let moved (table : List Session) := s.room.occupancy = .precondition ∧ ∃ c, s.room.current = some c ∧
      (c = r.id ∨ (table.head?.map (·.id)) ≠ some c)
    ∃ t, exec (.ttEntry f) s = .next t ∧
      (∀ h, s.currentRecord = some h → h.id = r.id → s.room.occupancy.runs = true →
        let refused := r.start ≠ h.start ∨ ∃ n, s.nextRecord = some n ∧ n.start < r.finish
        (refused →
          Latched s t (.ttRefused r.id .overlap) ∧ EntryCounted s t false ∧
            Changes ([.transfer, .queue, .latches] ++ s.recordingParts f) s t) ∧
        (¬ refused → EntryCounted s t true) ∧
        (¬ refused → m < r.finish →
          (∀ q, t.overrides.records.get q = (s.overrides.records.get q).map fun x =>
            if x.level = 3 ∧ x.expiry = some h.finish then { x with expiry := some r.finish } else x) ∧
          t.sessions.records = s.sessions.records.map (fun x =>
            if x.id = h.id then
              { h with finish := r.finish, expected := r.expected, scene := r.scene, pref := r.pref, takenE := false }
            else x) ∧
          t.room = s.room ∧ ReadersTookIt t) ∧
        (¬ refused → r.finish ≤ m →
          Retired s t r true ∧ ∀ q x, t.overrides.records.get q = some x → ∀ e, x.expiry = some e → m < e)) ∧
      ((s.room.current = some r.id → s.room.occupancy.runs = false) →
        (past → Latched s t (.ttRefused r.id .past)) ∧
        (¬ past → overlap → Latched s t (.ttRefused r.id .overlap)) ∧
        (¬ past → ¬ overlap → full → Latched s t (.ttRefused r.id .full)) ∧
        (past ∨ overlap ∨ full →
          EntryCounted s t false ∧ (∀ h ∈ t.sessions.records, h.id ≠ r.id) ∧ (moved others → MarkReevaluated s t others)) ∧
        (¬ past → ¬ overlap → ¬ full →
          EntryCounted s t true ∧
          ((r.start + r.grace ≤ m → ∀ h ∈ others, m < h.start - h.lead) → ∃ h ∈ t.sessions.records, SameEntry h r) ∧
          (∀ h ∈ t.sessions.records, h.id = r.id → SameEntry h r) ∧
          (16 ≤ others.length → ∀ l, others.getLast? = some l → ∀ h ∈ t.sessions.records, h.id ≠ l.id) ∧
          (moved placed → MarkReevaluated s t placed) ∧
          (¬ moved placed →
            (s.clock.timeValid = true → ∀ h ∈ placed, s.room.current = some h.id ∨ m < h.start - h.lead) →
            t.sessions.records = placed ∧ (MoreToCome s → Changes ([.transfer, .records] ++ s.recordingParts f) s t) ∧
              Changes ([.transfer, .records, .queue, .latches] ++ s.recordingParts f) s t)))

/-- A TT_CANCEL leaves no record of its session (R22): without one it is ignored; a record that is not current leaves without
event, and the record that is next then has its late points delivered (R12), nothing more changing where it has none; and the
current one is retired with SESSION_END, "overran no" (R51, R52). -/
def Obligations.CancelledSessionsLeaveTheTable : Prop :=
  ∀ (f : Frame) (s : State) (id : Nat), Taken s f 2 → decodeTtCancel f.payload = some id →
    ∃ t, exec (.ttCancel f) s = .next t ∧ (∀ r ∈ t.sessions.records, r.id ≠ id) ∧
      (s.recordOf id = none → Changes (s.recordingParts f) s t) ∧
      ((s.recordOf id).isSome = true → s.room.current ≠ some id →
        t = ((s.recordPeer f.src.toNat).removeSession id).armNext ∧
        ((s.clock.timeValid = true → ∀ h ∈ s.sessions.records, h.id ≠ id → s.room.current = some h.id ∨
            s.clock.minute < h.start - h.lead) →
          t.sessions.records = s.sessions.records.filter (fun r => r.id ≠ id) ∧
          Changes (.records :: s.recordingParts f) s t)) ∧
      (∀ r, s.currentRecord = some r → s.room.current = some id → RoomOk s → Retired s t r false)

/-- A kind is queued, or the queue is full of entries that are in flight or more urgent (R172, R174). -/
def QueuedIfRoom (t : State) (k : ReportKind) : Prop :=
  t.isQueued k = true ∨
    (8 ≤ t.link.queue.length ∧ ∀ e ∈ t.link.queue, t.inFlight e.kind = true ∨ urgency t.cfg e.kind < urgency t.cfg k)

/-- From the first state to the second, a change of the occupancy state has queued ROOM_STATUS, and, at a lead, a change of it or of
the current session id PAIR_STATE (R66, R139, R180). -/
def RoomReported (s t : State) : Prop :=
  QueueOk s →
    (t.room.occupancy ≠ s.room.occupancy → QueuedIfRoom t .roomStatus) ∧
    (s.isLead = true → t.room.occupancy ≠ s.room.occupancy ∨ t.sessionId ≠ s.sessionId → QueuedIfRoom t .pairState)

/-- From the first state to the second, the Override Table has taken the end of a handling (R61, R153): a raised switch marks every
level-3 record that is not stale, its timer set for 15 minutes, and no other; and where the room has become VACANT or RELEASED, or
stands so with another session, the stale records are gone. -/
def OverridesTookIt (s t : State) (switched : Bool) : Prop :=
  ∀ q, t.overrides.records.get q =
    let marked := (s.overrides.records.get q).map fun r =>
      if switched = true ∧ r.level = 3 ∧ r.stale = none then { r with stale := some (t.now + 900000) } else r
    if (t.room.occupancy ≠ s.room.occupancy ∨ t.sessionId ≠ s.sessionId) ∧
        (t.room.occupancy = .vacant ∨ t.room.occupancy = .released) then
      marked.filter fun r => r.stale.isNone
    else marked

/-- The compare points, what each does in each state. Of the current record B begins the session, G releases an unattended room, E
retires it (R14, R49 to R52, R56). Of another record A makes it current, retires a released one, or does nothing (R47), B is its A
and B together (R48), and E removes it (R14). A joined follower takes no A and no B (R67). Taking a point is one handling (R11,
R43), at whose end a session switch marks the level-3 override records stale, VACANT and RELEASED remove the stale ones (R61, R153),
and a changed room is reported (R66, R139, R180). -/
def Obligations.PointsOfTheCurrentRecordAct : Prop :=
  (∀ (s : State) (r : Session), s.isFollower = false → s.currentRecord = some r →
    (∀ t, s.deliverCore .pointB r.id = t →
      t.room.occupancy = (if s.room.occupancy = .precondition then .expected else s.room.occupancy) ∧
        t.room.current = s.room.current ∧ t.room.switchMarker = true ∧ Latched s t (.sessionBegin r.id) ∧
        Changes [.occupancy, .switchMarker, .queue, .latches] s t) ∧
    (∀ t, s.deliverCore .pointG r.id = t →
      (s.room.occupancy = .expected →
        t.room.occupancy = .released ∧ Latched s t (.release r.id .noShow) ∧ Changes [.occupancy, .queue, .latches] s t) ∧
      (s.room.occupancy ≠ .expected → t = s)) ∧
    (∀ t, s.deliverCore .pointE r.id = t → Retired s t r true ∧ t.room.switchMarker = true)) ∧
  (∀ (s : State) (n : Session), s.isFollower = false → s.recordOf n.id = some n → s.room.current ≠ some n.id →
    (s.room.occupancy = .vacant ∨ s.room.occupancy = .adhoc ∨ s.room.occupancy = .overrun →
      (∀ t, s.deliverCore .pointA n.id = t →
        t.room.current = some n.id ∧ t.room.occupancy = (if s.fresh then .occupied else .precondition) ∧
          t.room.overrunDue = none ∧ Changes [.occupancy] s t) ∧
      (∀ t, s.deliverCore .pointB n.id = t →
        t.room.current = some n.id ∧ t.room.occupancy = (if s.fresh then .occupied else .expected) ∧
          t.room.overrunDue = none ∧ t.room.switchMarker = true ∧ Latched s t (.sessionBegin n.id) ∧
          t.recordOf n.id = some { n with takenA := true } ∧
          Changes [.occupancy, .records, .switchMarker, .queue, .latches] s t)) ∧
    (s.room.occupancy = .released → ∀ r, s.currentRecord = some r →
      Retired s (s.deliverCore .pointA n.id) r false) ∧
    (s.room.occupancy = .precondition ∨ s.room.occupancy = .expected ∨ s.room.occupancy = .occupied →
      s.deliverCore .pointA n.id = s ∧ s.deliverCore .pointB n.id = s)) ∧
  (∀ (s : State) (id : Nat),
    (s.isFollower = true → s.deliverCore .pointA id = s ∧ s.deliverCore .pointB id = s) ∧
    (s.room.current ≠ some id →
      s.deliverCore .pointG id = s ∧
      s.deliverCore .pointE id =
        { s with sessions := { s.sessions with records := s.sessions.records.filter fun h => h.id ≠ id } })) ∧
  (∀ (s : State) (p : Point) (id : Nat), s.suppressedBy = none →
    let u := (s.modRecordOf id (Session.mark · p)).deliverCore p id
    (s.deliver p id).room = { u.room with switchMarker := false } ∧ (s.deliver p id).sessions = u.sessions ∧
      OverridesTookIt s (s.deliver p id) u.room.switchMarker ∧ RoomReported s (s.deliver p id) ∧
      ∀ k, k ≠ .blindFault → (s.deliver p id).link.latches.get k = u.link.latches.get k)

/-- The record that becomes next has its late points delivered at once, A, B and G in turn (R12): from VACANT, ADHOC or OVERRUN it
becomes current as its A and B together say (R48; log entry 7), and its G releases it; in RELEASED its A retires the released
record; in the other states it changes nothing in the room. Nothing late, nothing next, or no valid time changes nothing. -/
def Obligations.LatePointsAreDeliveredAtOnce : Prop :=
  ∀ s : State,
    (s.clock.timeValid = false ∨ s.nextRecord = none → s.armNext = s) ∧
    ∀ n, s.nextRecord = some n → s.clock.timeValid = true →
      let late (p : Point) := n.taken p = false ∧ n.minuteOf p ≤ s.clock.minute
      (¬ late .pointA → ¬ late .pointB → ¬ late .pointG → s.armNext = s) ∧
      (RoomOk s → s.room.current = none → s.isFollower = false →
        (late .pointA → ¬ late .pointB → ¬ late .pointG →
          s.armNext.room.current = some n.id ∧ s.armNext.room.occupancy = (if s.fresh then .occupied else .precondition)) ∧
        (late .pointB → s.fresh = true ∨ ¬ late .pointG →
          s.armNext.room.current = some n.id ∧ s.armNext.room.occupancy = (if s.fresh then .occupied else .expected) ∧
            Latched s s.armNext (.sessionBegin n.id)) ∧
        (late .pointB → late .pointG → s.fresh = false →
          (∀ x ∈ s.sessions.records, x.id ≠ n.id → s.clock.minute < x.start - x.lead) →
          s.armNext.room.current = some n.id ∧ s.armNext.room.occupancy = .released ∧
            Latched s s.armNext (.sessionBegin n.id) ∧ Latched s s.armNext (.release n.id .noShow))) ∧
      (RoomOk s → s.room.occupancy = .released → late .pointA → ∀ r, s.currentRecord = some r → Retired s s.armNext r false) ∧
      (RoomOk s → s.room.occupancy = .precondition ∨ s.room.occupancy = .expected ∨ s.room.occupancy = .occupied →
        s.armNext.room = s.room)

/-! ## Evidence and vacancy (R26 to R41, R53, R54) -/

/-- The occupancy state after an evidence event at a node that is no follower (R53). -/
def occupancyAfterEvidence (o : Occupancy) (confirming : Bool) : Occupancy :=
  match o with
  | .vacant => if confirming then .adhoc else .vacant
  | .precondition | .expected | .released => .occupied
  | .occupied | .overrun | .adhoc => o

/-- From the first state to the second, an evidence event came at the first one's time (R32, R33, R53, R67, R140): the quiet timing
restarts, the room takes it, a changed one being reported, and a follower reports it to its lead. -/
def EvidenceTaken (s t : State) (at_ : Nat) (confirming : Bool) : Prop :=
  t.evidence.lastEvidence = some at_ ∧ t.evidence.holdPassed = false ∧ t.evidence.triplePassed = false ∧
    (s.isFollower = false → t.room.occupancy = occupancyAfterEvidence s.room.occupancy confirming) ∧
    (s.isFollower = true → t.room.occupancy = s.room.occupancy ∧ t.pair.evidenceFlag = true) ∧ RoomReported s t

/-- From the first state to the second, an evidence event was taken with its marking (R32, R33, R53): an ENTRY confirms and leaves the
confirmation mark; any other confirms where it comes at most 2 minutes after the mark, and sets it; and a confirming one in VACANT
latches ADHOC with the headcount then counted. -/
def EvidenceActed (s t : State) (at_ : Nat) (entry : Bool) : Prop :=
  let confirming := entry || s.evidence.confirmMark.any fun m => at_ - m ≤ 120000
  EvidenceTaken s t at_ confirming ∧ t.evidence.confirmMark = (if entry then s.evidence.confirmMark else some at_) ∧
    t.room.current = s.room.current ∧
    (s.isFollower = false → s.room.occupancy = .vacant → confirming = true → Latched s t (.adhoc t.testedHeadcount))

/-- A PIR pulse is a MOTION evidence event: it also sets the confirmation mark, and confirming evidence in VACANT latches ADHOC
with the headcount (R31 to R33, R53). A beam break starts its stuck timer (R26) and is taken against the window: it opens the
window, restarts it as an unpaired break, or makes an entry, which confirms, or an exit; while a beam is stuck, a break of the other
is unpaired at once (R27, R29, R30). A release stops the stuck timer and clears the mark; the stuck timer marks the beam, latches
SENSOR_FAULT DOOR and closes an open window as unpaired where no fault stood (R30); and the window's own expiry is an unpaired
break dated at the expiry (R28). Each of these breaks is an evidence event. That an expiry is taken at the later of the present time
and its due time is the model's choice (log entry 1). A break counts only on a clear beam and a release on a broken one (log entry
19). -/
def Obligations.MotionAndDoorBeamsAreEvidence : Prop :=
  (∀ s : State, s.isRunning = true →
    let confirming := s.evidence.confirmMark.any fun m => s.now - m ≤ 120000
    ∃ t, exec .pirPulse s = .next t ∧ EvidenceActed s t s.now false ∧ t.evidence.headcount = s.evidence.headcount ∧
      (s.isFollower = false → s.room.occupancy = .vacant → confirming = true → Latched s t (.adhoc s.testedHeadcount))) ∧
  (∀ (s : State) (b : Beam), s.isRunning = true → s.pins.broken.get b = false →
    ∃ t, exec (.beamBreak b) s = .next t ∧ t.pins.broken.get b = true ∧
      t.evidence.stuckDue.get b = some (s.now + 60000) ∧
      (s.doorFault = false → s.evidence.window = none →
        t.evidence.window = some ⟨b, s.now⟩ ∧ Changes [.pins, .door] s t) ∧
      (s.doorFault = false → (∃ w, s.evidence.window = some w ∧ w.beam = b) →
        t.evidence.window = some ⟨b, s.now⟩ ∧ t.evidence.headcount = s.evidence.headcount ∧ EvidenceActed s t s.now false) ∧
      (s.doorFault = false → (∃ w, s.evidence.window = some w ∧ w.beam ≠ b) →
        t.evidence.window = none ∧ EvidenceActed s t s.now (b = .inner) ∧
        t.evidence.headcount =
          (match b with
          | .inner => min 511 (s.evidence.headcount + 1)
          | .outer => s.evidence.headcount - 1)) ∧
      (s.doorFault = true → t.evidence.window = s.evidence.window ∧ t.evidence.headcount = s.evidence.headcount ∧
        (s.evidence.stuckMark.get b = false → EvidenceActed s t s.now false) ∧
        (s.evidence.stuckMark.get b = true → Changes [.pins, .door] s t))) ∧
  (∀ (s : State) (b : Beam), s.isRunning = true → s.pins.broken.get b = true →
    ∃ t, exec (.beamRelease b) s = .next t ∧ t.pins.broken.get b = false ∧ t.evidence.stuckDue.get b = none ∧
      t.evidence.stuckMark.get b = false ∧ t.evidence.window = s.evidence.window ∧
      (s.doorFault = false → Changes [.pins, .door] s t) ∧
      (s.doorFault = true → t.doorFault = false → t.heldRecord = t.ownRecord)) ∧
  (∀ (s : State) (b : Beam) (due : Nat), s.isRunning = true → s.evidence.stuckDue.get b = some due →
    ∃ t, exec (.stuckTimerExpiry b) s = .next t ∧ t.now = max s.now due ∧ t.evidence.stuckDue.get b = none ∧
      t.evidence.stuckMark.get b = true ∧
      (s.doorFault = true → Changes [.now, .door] s t) ∧
      (s.doorFault = false → t.evidence.window = none ∧ Latched s t (.sensorFault .door) ∧ t.heldRecord = t.ownRecord ∧
        t.evidence.headcount = s.evidence.headcount ∧
        (s.evidence.window.isSome = true → EvidenceActed s t t.now false) ∧
        (s.evidence.window = none → Changes [.now, .door, .queue, .latches, .airRecord, .grant, .damper] s t))) ∧
  (∀ (s : State) (w : Window), s.isRunning = true → s.evidence.window = some w →
    ∃ t, exec .windowExpiry s = .next t ∧ t.now = max s.now (w.openedAt + 1500) ∧ t.evidence.window = none ∧
      EvidenceActed s t t.now false ∧ t.evidence.headcount = s.evidence.headcount)

/-- The occupancy state after a declaration of vacancy at a node that is no follower (R54); `begun` says that B of the current
record has been taken. -/
def occupancyAfterVacancy (o : Occupancy) (begun : Bool) : Occupancy :=
  match o with
  | .occupied => if begun then .released else .precondition
  | .overrun | .adhoc => .vacant
  | .vacant | .precondition | .expected | .released => o

/-- From the first state to the second, vacancy was declared (R35, R54): no headcount, no evidence history, and the room as its
state asks, with RELEASE EARLY_LEAVE where a begun session is left. -/
def VacancyDeclared (s t : State) : Prop :=
  t.evidence.headcount = 0 ∧ t.evidence.lastEvidence = none ∧ t.evidence.confirmMark = none ∧
    t.room.current = s.room.current ∧
    (s.isFollower = true → t.room.occupancy = s.room.occupancy) ∧
    (s.isFollower = false → t.room.occupancy = occupancyAfterVacancy s.room.occupancy s.currentBegun) ∧
    (s.isFollower = false → s.room.occupancy = .occupied → s.currentBegun = true →
      Latched s t (.release (s.room.current.getD 0) .earlyLeave)) ∧
    OverridesTookIt s t s.room.switchMarker ∧ RoomReported s t

/-- When the quiet time reaches the vacancy hold, vacancy is declared with a headcount of 0, and at three holds whatever the
headcount; in neither case under an occupied examination (R34 to R36). A handling that ends this suppression is followed by the test
against the quiet time as it then stands, with vacancy declared at three holds, or at one with a headcount of 0 (R36); so for a
cancelled examination. The overrun timer makes the room ADHOC, with its event (R57). A changed room is reported, and VACANT and
RELEASED remove the stale override records (R66, R139, R153, R180).
That an expiry is taken at the later of the present time and its due time is the model's choice (log entry 1). -/
def Obligations.QuietTimeAndOverrunTimerAct : Prop :=
  (∀ (s : State) (e : Nat), s.isRunning = true → s.evidence.lastEvidence = some e →
    (s.evidence.holdPassed = false →
      ∃ t, exec .vacancyHoldExpiry s = .next t ∧ t.now = max s.now (e + 60000 * s.cfg.vacancyHold) ∧
        (s.suppressedBy = none → s.testedHeadcount = 0 → VacancyDeclared s t) ∧
        (s.suppressedBy ≠ none ∨ s.testedHeadcount ≠ 0 →
          Changes [.now, .history] s t ∧ t.evidence.holdPassed = true ∧ t.evidence.lastEvidence = some e)) ∧
    (s.evidence.triplePassed = false →
      ∃ t, exec .tripleHoldExpiry s = .next t ∧ t.now = max s.now (e + 3 * (60000 * s.cfg.vacancyHold)) ∧
        (s.suppressedBy = none → VacancyDeclared s t) ∧
        (s.suppressedBy ≠ none →
          Changes [.now, .history] s t ∧ t.evidence.triplePassed = true ∧ t.evidence.lastEvidence = some e))) ∧
  (∀ (s : State) (due : Nat), s.isRunning = true → s.room.overrunDue = some due → s.room.occupancy = .overrun →
    ∃ t, exec .overrunTimerExpiry s = .next t ∧ t.now = max s.now due ∧ t.room.occupancy = .adhoc ∧
      t.room.overrunScene = none ∧ t.room.overrunDue = none ∧ t.room.current = s.room.current ∧
      Latched s t (.adhoc s.testedHeadcount) ∧ RoomReported s t) ∧
  (∀ (s : State) (core : State → State), s.suppressedBy ≠ none → (s.handle core).suppressedBy ≠ s.suppressedBy →
    let u := s.handle core
    let hold := 60000 * s.cfg.vacancyHold
    let t := s.handling core
    u.cfg = s.cfg →
    (u.evidence.lastEvidence = none → t = u) ∧
    ∀ e, u.evidence.lastEvidence = some e →
      (3 * hold ≤ u.now - e → VacancyDeclared u t) ∧
      (u.now - e < 3 * hold → hold ≤ u.now - e → u.testedHeadcount = 0 → VacancyDeclared u t) ∧
      (u.now - e < 3 * hold → u.now - e < hold ∨ u.testedHeadcount ≠ 0 → t = u)) ∧
  (∀ (f : Frame) (s : State) (r : Session) (e : Nat), Taken s f 2 → decodeTtCancel f.payload = some r.id → RoomOk s →
    s.currentRecord = some r → r.kind = .exam → s.room.occupancy = .occupied → s.evidence.lastEvidence = some e →
    let hold := 60000 * s.cfg.vacancyHold
    let vacant := 3 * hold ≤ s.now - e ∨ (hold ≤ s.now - e ∧ s.testedHeadcount = 0)
    ∃ t, exec (.ttCancel f) s = .next t ∧
      (vacant → t.evidence.headcount = 0 ∧ t.evidence.lastEvidence = none ∧ t.evidence.confirmMark = none) ∧
      (¬ vacant → t.evidence = s.evidence))

/-- A CO2 sample (R38, R39, R71): 60..1000 counts give 5 ppm a count and clear the fault, others leave the value and set the fault,
latching SENSOR_FAULT where it was clear; the own record is evaluated afresh at either change. That an expiry is taken at the later
of the present time and its due time is the model's choice (log entry 1). -/
def Obligations.Co2SamplesAreTaken : Prop :=
  ∀ (s : State) (counts : BitVec 10), s.isRunning = true →
    ∃ t, exec (.co2Sample counts) s = .next t ∧ t.now = max s.now s.evidence.co2Due ∧ t.evidence.co2Due = t.now + 10000 ∧
      (60 ≤ counts.toNat → counts.toNat ≤ 1000 →
        t.evidence.co2 = some (5 * counts.toNat) ∧ t.evidence.co2Fault = false ∧ t.heldRecord = t.ownRecord ∧
        t.link.latches = s.link.latches) ∧
      (counts.toNat < 60 ∨ 1000 < counts.toNat →
        t.evidence.co2 = s.evidence.co2 ∧ t.evidence.co2Fault = true ∧
        (s.evidence.co2Fault = false → Latched s t (.sensorFault .co2) ∧ t.heldRecord = t.ownRecord) ∧
        (s.evidence.co2Fault = true → Changes [.now, .samples] s t))

/-! ## Light and shade (R64, R95 to R113) -/

/-- A photocell sample (R38, R40, R41, R100 to R103): below full scale it is the held value, 2 lux a count, and clears the fault;
at full scale for 60 s it sets the fault and restores the value before the run, and with the fault set already it changes nothing
held. Then the loop takes a step by the held value, or, with the fault set, to the fallback level, none while life-safety is
active, and the outputs carry it outside hold. That an expiry is taken at the later of the present time and its due time is the
model's choice (log entry 1). -/
def Obligations.PhotocellSamplesStepTheLoop : Prop :=
  ∀ (s : State) (counts : BitVec 10), s.isRunning = true →
    let now' := max s.now s.evidence.photo.sampleDue
    let target := s.light.loopTarget
    let stepped (lux : Nat) : Nat :=
      if target = 0 then 0
      else
        (clampInt 0 1000 (s.light.restLevel +
          clampInt (-40) 40 (Int.tdiv (((target : Int) - (lux : Nat)) * s.cfg.loopGain) 64))).toNat
    let fallback := if target = 0 then 0 else min 1000 (2 * target)
    ∃ t, exec (.photocellSample counts) s = .next t ∧ t.now = now' ∧ t.evidence.photo.sampleDue = now' + 2000 ∧
      t.light.loopTarget = target ∧
      (counts.toNat < 1023 →
        t.evidence.photo.held = some (2 * counts.toNat) ∧ t.evidence.photo.run = none ∧ t.evidence.photo.fault = false ∧
        t.link.latches = s.link.latches ∧ (s.lifeSafetyActive = false → t.light.restLevel = stepped (2 * counts.toNat))) ∧
      (counts.toNat = 1023 → s.evidence.photo.fault = false →
        (s.evidence.photo.run = none →
          t.evidence.photo.held = some 2046 ∧ t.evidence.photo.run = some ⟨now', s.evidence.photo.held⟩ ∧
          t.evidence.photo.fault = false ∧ (s.lifeSafetyActive = false → t.light.restLevel = stepped 2046)) ∧
        (∀ r, s.evidence.photo.run = some r → now' - r.firstAt < 60000 →
          t.evidence.photo.held = some 2046 ∧ t.evidence.photo.run = some r ∧ t.evidence.photo.fault = false ∧
          (s.lifeSafetyActive = false → t.light.restLevel = stepped 2046)) ∧
        (∀ r, s.evidence.photo.run = some r → 60000 ≤ now' - r.firstAt →
          t.evidence.photo.held = r.preRun ∧ t.evidence.photo.fault = true ∧ Latched s t (.sensorFault .photo) ∧
          (s.lifeSafetyActive = false → t.light.restLevel = fallback))) ∧
      (counts.toNat = 1023 → s.evidence.photo.fault = true →
        t.evidence.photo = { s.evidence.photo with sampleDue := now' + 2000 } ∧ t.link.latches = s.link.latches ∧
        (s.lifeSafetyActive = false → t.light.restLevel = fallback)) ∧
      (s.lifeSafetyActive = true → t.light = s.light) ∧
      (s.lifeSafetyActive = false → s.overrides.hold = false →
        t.out.dim1 = t.light.front ∧ t.out.dim2 = t.light.restLevel) ∧
      (s.lifeSafetyActive = false → s.overrides.hold = true → t.out = s.out)

/-- From the first state to the second, a held irradiance was compared with the thresholds (R104): above H it sets a clear flag, and
every bank holds its new target; with the flag set it starts the clear dwell below H − h and stops it from there up. -/
def GlareCompared (s t : State) (v : Nat) : Prop :=
  (s.shade.glare = false → s.cfg.glareThreshold < v →
    t.shade.glare = true ∧ t.shade.dwellDue = none ∧ ∀ b, t.shade.held.get b = t.bankTarget b) ∧
  (s.shade.glare = false → v ≤ s.cfg.glareThreshold → Changes [.now, .samples] s t) ∧
  (s.shade.glare = true → s.cfg.glareThreshold - s.cfg.hysteresis ≤ v →
    t.shade.glare = true ∧ t.shade.dwellDue = none ∧ Changes [.now, .samples, .glare] s t) ∧
  (s.shade.glare = true → v < s.cfg.glareThreshold - s.cfg.hysteresis →
    t.shade.glare = true ∧ t.shade.dwellDue = some (s.shade.dwellDue.getD (t.now + 600000)) ∧
    Changes [.now, .samples, .glare] s t)

/-- An irradiance sample, 6/5 W/m² a count, is held and compared with H and h, at full scale too (R38, R40, R104); full scale for
60 s sets the fault and restores the value before the run, and while the fault stands no comparison is made and the dwell is
stopped (R41, R106). The dwell's expiry clears the flag; wherever the flag changes, every bank holds its new target (R104, R110).
That an expiry is taken at the later of the present time and its due time is the model's choice (log entry 1). -/
def Obligations.IrradianceSetsAndClearsGlare : Prop :=
  (∀ (s : State) (counts : BitVec 10), s.isRunning = true →
    let now' := max s.now s.evidence.irrad.sampleDue
    let unjudged (t : State) := t.shade.glare = s.shade.glare ∧ t.shade.dwellDue = none ∧ t.shade.held = s.shade.held
    ∃ t, exec (.irradianceSample counts) s = .next t ∧ t.now = now' ∧
      (counts.toNat < 1023 →
        t.evidence.irrad = ⟨some (counts.toNat * 6 / 5), none, false, now' + 10000⟩ ∧
        GlareCompared s t (counts.toNat * 6 / 5)) ∧
      (counts.toNat = 1023 → s.evidence.irrad.fault = false →
        (s.evidence.irrad.run = none →
          t.evidence.irrad = ⟨some 1227, some ⟨now', s.evidence.irrad.held⟩, false, now' + 10000⟩ ∧
          GlareCompared s t 1227) ∧
        (∀ r, s.evidence.irrad.run = some r → now' - r.firstAt < 60000 →
          t.evidence.irrad = ⟨some 1227, some r, false, now' + 10000⟩ ∧ GlareCompared s t 1227) ∧
        (∀ r, s.evidence.irrad.run = some r → 60000 ≤ now' - r.firstAt →
          t.evidence.irrad = ⟨r.preRun, some r, true, now' + 10000⟩ ∧ Latched s t (.sensorFault .irrad) ∧ unjudged t ∧
          Changes [.now, .samples, .glare, .queue, .latches] s t)) ∧
      (counts.toNat = 1023 → s.evidence.irrad.fault = true →
        t.evidence.irrad = { s.evidence.irrad with sampleDue := now' + 10000 } ∧ unjudged t ∧
        Changes [.now, .samples, .glare] s t)) ∧
  (∀ (s : State) (due : Nat), s.isRunning = true → s.shade.dwellDue = some due →
    ∃ t, exec .clearDwellExpiry s = .next t ∧ t.now = max s.now due ∧ t.shade.glare = false ∧ t.shade.dwellDue = none ∧
      ∀ b, t.shade.held.get b = t.bankTarget b)

/-- The lights and the blinds follow the room (R64, R65, R96, R97, R99 to R101, R107 to R112). Decided afresh, the active scene is
the override's, or the one the occupancy state selects, with a front level of 0 in EXPECTED; the loop target is its rest target
with the preference and light trims; and each bank's target is SAFETY, the BLINDS record, or what policy, screen side and glare
give. A joined follower takes its lead's values instead (R111). And every step keeps what is in use so (`ViewsOk`). That a joined
follower's loop target waits for its lead's next PAIR_STATE is the model's reading (log entry 27). -/
def Obligations.LightsAndBlindsFollowTheRoom : Prop :=
  (∀ s : State,
    let fields (n : Nat) : Scene := if n = 0 then ⟨0, 0, .followGlare⟩ else s.cfg.scenes.getD (n - 1) ⟨0, 0, .followGlare⟩
    let selected : Nat :=
      if s.isFollower then s.pair.mirror.scene
      else
        match s.room.occupancy with
        | .vacant | .precondition | .released => 0
        | .expected | .occupied => (s.currentRecord.map (·.scene)).getD 0
        | .overrun => s.room.overrunScene.getD 0
        | .adhoc => 1
    let override : Option Nat :=
      if s.isFollower then s.pair.mirror.lightScene
      else if s.lifeSafetyActive then none else s.overrides.records.lightScene.map (·.value.toNat)
    let lightTrim : Int :=
      if s.isFollower then s.pair.mirror.lightLevel.getD 0
      else if s.lifeSafetyActive then 0 else (s.overrides.records.lightLevel.map (·.value)).getD 0
    let prefTrim : Int := ((s.followedRecord.bind (·.pref)).map (·.trim)).getD 0
    let scene := fields (override.getD selected)
    let target : Nat := if scene.rest = 0 then 0 else (clampInt 0 1000 (scene.rest + prefTrim + lightTrim)).toNat
    let t := s.relight
    Changes [.light, .dims] s t ∧ t.light.scene = override.getD selected ∧
      t.light.front = (if override = none ∧ s.room.occupancy = .expected then 0 else scene.front) ∧
      t.light.rest = scene.rest ∧ t.light.policy = scene.policy ∧ t.light.loopTarget = target ∧
      t.light.restLevel =
        (if target = s.light.loopTarget then s.light.restLevel
        else if target = 0 then 0
        else if s.evidence.photo.fault = true ∨ s.evidence.photo.held = none then min 1000 (2 * target)
        else s.light.restLevel)) ∧
  (∀ s : State,
    let glare := if s.isFollower then s.pair.mirror.glare else s.shade.glare
    let policy : BlindPolicy :=
      if s.isFollower then s.pair.mirror.policy
      else
        match (s.currentRecord.bind Session.pref).map Preference.policy with
        | some .openUp => .openUp
        | some .project => .project
        | _ => s.light.policy
    let t := s.reshade
    Changes [.held, .handed, .drive, .motor, .queue, .latches] s t ∧
      (∀ b,
        let c := s.cfg.banks.get b
        let byGlare : Target := if glare then ⟨c.glarePos, .glare⟩ else ⟨0, .scene⟩
        t.shade.held.get b =
          if s.lifeSafetyActive then some ⟨0, .safety⟩
          else
            match s.overrides.records.blinds with
            | some r => some ⟨r.value.toNat, .override⟩
            | none =>
              match s.room.occupancy with
              | .vacant | .released => if glare then some ⟨c.glarePos, .glare⟩ else none
              | .precondition | .expected | .occupied | .overrun | .adhoc =>
                some (match policy with
                  | .followGlare => byGlare
                  | .project => if c.screenSide then ⟨100, .scene⟩ else byGlare
                  | .openUp => ⟨0, .scene⟩)) ∧
      t.pair.handed.policy = policy ∧ t.pair.handed.glare = s.shade.glare ∧
      (s.isLead = true → t.pair.handed ≠ s.pair.handed → (∀ k, 1 ≤ (s.cfg.events.get k).priority) → QueueOk s →
        t.isQueued .pairState = true)) ∧
  ∀ s t : State, RoomOk s → ViewsOk s → step s = .next t → ViewsOk t

/-! ## Air (R69 to R94) -/

/-- An evaluation leaves the floor and the class of the own record as life-safety, an AIR_BOOST record and the occupancy state give
them, an F_vac in its range (R70) being the floor, and every step keeps them so while the blocks run (R71, R72). -/
def Obligations.TheOwnRecordHasItsFloorAndClass : Prop :=
  (∀ s : State,
    let t := s.evaluate
    (s.lifeSafetyActive = true → t.air.floor = 0 ∧ t.air.airClass = 0) ∧
    (s.lifeSafetyActive = false → s.cfg.vacFloor ≤ s.cfg.mMax → t.air.floor = s.cfg.vacFloor) ∧
    (s.lifeSafetyActive = false → s.overrides.records.airBoost.isSome = true → t.air.airClass = 3) ∧
    (s.lifeSafetyActive = false → s.overrides.records.airBoost = none →
      t.air.airClass =
        match s.room.occupancy with
        | .occupied | .overrun | .adhoc => 3
        | .precondition | .expected => 2
        | .vacant | .released => 1)) ∧
  ∀ s t : State, ClassOk s → step s = .next t → ClassOk t

/-- An evaluation leaves D at the row of the occupancy state, with HOLD_VACANT, AIR_BOOST and the clamp (R73, R76, R77): a joined
node counts its leaf share of n_comb and of a JOINED session's attendance (R74, R75), and a DOOR fault counts no fewer than are
expected (R74). F_vac is taken as the lesser of the record's and M_max, which is the model's choice for an erased one (log entry 16).
A changed class is published at once, and so is a D that differs from the last published one by a tenth of that, at least 20, or more
(R94). -/
def Obligations.TheOwnRecordHasItsDemand : Prop :=
  ∀ s : State, s.lifeSafetyActive = false →
    let c := s.cfg
    let floor := min c.mMax c.vacFloor
    let partnerMax := ((s.peers.find? fun p => p.address = c.partner).bind (·.pairPart)).getD c.mMax
    let share (n : Nat) := n * c.mMax / (c.mMax + partnerMax)
    let expected :=
      match s.followedRecord with
      | some r => if r.scope = .joined ∧ s.isJoined = true then share r.expected else r.expected
      | none => 0
    let base := if s.isJoined then share s.pair.combined else s.evidence.headcount
    let count :=
      if s.doorFault then
        match s.room.occupancy with
        | .occupied => max base expected
        | .overrun | .adhoc => max base 1
        | _ => base
      else base
    let trim :=
      match s.evidence.co2Fault, s.evidence.co2 with
      | false, some ppm => (ppm - c.co2Setpoint) * c.co2Gain / 100
      | _, _ => 0
    let row :=
      if s.overrides.records.holdVacant.isSome then floor
      else
        match s.room.occupancy with
        | .vacant | .released => floor
        | .precondition => c.areaRate + c.personRate * (expected / 2)
        | .expected => c.areaRate + c.personRate * expected
        | .occupied | .overrun | .adhoc => c.areaRate + c.personRate * count + trim
    let boost := ((s.overrides.records.airBoost).map (·.value.toNat)).getD 0
    let t := s.evaluate
    t.air.floor = floor ∧ t.air.demand = max floor (min c.mMax (row + boost)) ∧ t.heldRecord = t.ownRecord ∧
      (let far := ∀ p, s.air.lastPublished = some p →
        max (p / 10) 20 ≤ (t.air.demand - p) + (p - t.air.demand)
      let atOnce := t.air.airClass ≠ s.air.airClass ∨ (t.air.demand ≠ s.air.demand ∧ far)
      (atOnce → s.link.queue.length < 8 → t.isQueued .demand = true) ∧ (¬ atOnce → t.link = s.link))

/-- At each recomputation the damper is set to min(1000, floor(G × 1000 / M_max)), unless hold is on or life-safety is active; after
every command, from a state with the properties of `AirOk`, it stands there outside hold and life-safety, with the product at most
2,000,000 and the min not biting (R88). -/
def Obligations.TheDamperFollowsTheGrant : Prop :=
  (∀ s : State,
    (s.lifeSafetyActive = false → s.overrides.hold = false →
      s.recompute.out.dmp = min 1000 (s.recompute.air.grant * 1000 / s.cfg.mMax)) ∧
    (s.lifeSafetyActive = true ∨ s.overrides.hold = true → s.recompute.out.dmp = s.out.dmp)) ∧
  (∀ (c : Instr) (s t : State), AirOk s → exec c s = .next t → t.isRunning = true → t.lifeSafetyActive = false →
    t.overrides.hold = false →
    t.out.dmp = min 1000 (t.air.grant * 1000 / t.cfg.mMax) ∧ t.air.grant * 1000 / t.cfg.mMax ≤ 1000 ∧
      t.air.grant * 1000 ≤ 2000000)

/-- The own grant (R83 to R86): nothing in class 0; the demand up to the isolated ceiling while capacity is unknown; and otherwise
the share of the view of own riser, classes 1 to 3 and ages up to 3 × T_d (R81). Floors that exhaust the capacity share it in
proportion; what they leave goes to the extras of class 3, then 2, then 1, in proportion where a class exhausts it. That the isolated
ceiling is the lesser of the record's and M_max is the model's choice for an erased one (log entry 16). -/
def Obligations.TheGrantIsItsShare : Prop :=
  ∀ s : State,
    let g := s.recompute.air.grant
    let a := s.air
    (a.airClass = 0 → g = 0) ∧
    (a.capacityKnown = false → a.airClass ≠ 0 → g = min a.demand (min s.cfg.mMax s.cfg.isolated)) ∧
    (a.capacityKnown = true → 1 ≤ a.airClass → a.airClass ≤ 3 →
      let view := (s.peers.filterMap (·.demandPart)).filter fun p =>
        p.riser = s.cfg.riser ∧ 1 ≤ p.airClass ∧ p.airClass ≤ 3 ∧
          min 65535 ((s.now - p.writtenAt) / 1000) ≤ 3 * s.cfg.demandPeriod
      let floors := a.floor + (view.map (·.floor)).sum
      let extras (c : Nat) := (if a.airClass = c then a.demand - a.floor else 0) +
        ((view.filter fun p => p.airClass = c).map fun p => p.demand - p.floor).sum
      let left3 := a.capacity - floors
      let left2 := left3 - extras 3
      let left := if a.airClass = 3 then left3 else if a.airClass = 2 then left2 else left2 - extras 2
      (a.capacity ≤ floors → g = a.floor * a.capacity / floors) ∧
      (floors < a.capacity → extras a.airClass ≤ left → g = a.demand - a.floor + a.floor) ∧
      (floors < a.capacity → left < extras a.airClass →
        g = a.floor + (a.demand - a.floor) * left / extras a.airClass))

/-- A CAPACITY frame for the riser makes the capacity known, 0 with the supply stopped and at most 20000, for 120 s, after which
it is unknown (R79, R80). A DEMAND frame writes the source's demand part (R167). The view's age check acts where a peer of the
view has aged past 3 × T_d or has left the table, and otherwise does nothing (R82). Each of them recomputes the grant (R87). That
an expiry is taken at the later of the present time and its due time is the model's choice (log entry 1). So is the moment of the
age check (log entry 1). -/
def Obligations.CapacityAndDemandFramesRecompute : Prop :=
  (∀ (f : Frame) (s : State) (v : CapacityFields), Taken s f 2 → decodeCapacity f.payload = some v →
    ∃ t, exec (.capacity f) s = .next t ∧
      (v.riser ≠ s.cfg.riser → Changes (s.recordingParts f) s t) ∧
      (v.riser = s.cfg.riser →
        t.air.capacityKnown = true ∧ t.air.capacity = (if v.running then min 20000 v.capacity else 0) ∧
        t.air.supplyRunning = v.running ∧ t.air.capacityDue = some (s.now + 120000) ∧ t.air.grant = t.grantValue ∧
        t.air.pinch = decide (t.air.grant < t.air.demand) ∧ Changes ([.capacity, .grant, .damper] ++ s.recordingParts f) s t)) ∧
  (∀ (s : State) (due : Nat), s.isRunning = true → s.air.capacityDue = some due →
    ∃ t, exec .capacityTimerExpiry s = .next t ∧ t.now = max s.now due ∧ t.air.capacityKnown = false ∧
      t.air.capacity = s.air.capacity ∧ t.air.supplyRunning = s.air.supplyRunning ∧ t.air.capacityDue = none ∧
      t.air.grant = (if s.air.airClass = 0 then 0 else min s.air.demand (min s.cfg.mMax s.cfg.isolated)) ∧
      Changes [.now, .capacity, .grant, .damper] s t) ∧
  (∀ (f : Frame) (s : State) (v : DemandFields), Taken s f 3 → decodeDemand f.payload = some v →
    ∃ t, exec (.demand f) s = .next t ∧ t.air.grant = t.grantValue ∧ Changes ([.grant, .damper] ++ s.recordingParts f) s t ∧
      ((∃ p ∈ s.peers, p.address = f.src.toNat) ∨ s.peers.length < 48 →
        ∃ p ∈ t.peers, p.address = f.src.toNat ∧ p.heardAt = s.now ∧
          p.demandPart = some ⟨v.riser, v.demand, v.floor, v.airClass, s.now⟩) ∧
      ∀ p ∈ t.peers, p.address ≠ f.src.toNat → p ∈ s.peers) ∧
  (∀ s : State, s.isRunning = true →
    ((∃ a ∈ s.air.view, ∀ p ∈ s.peers, p.address = a → ∀ d, p.demandPart = some d → 3 * s.cfg.demandPeriod < s.ageOf d.writtenAt) →
      s.viewIsStale = true) ∧
    (s.viewIsStale = false → exec .viewAgeCheck s = .next s) ∧
    (s.viewIsStale = true → ∃ t, exec .viewAgeCheck s = .next t ∧ t.air.grant = t.grantValue ∧
      Changes [.grant, .damper] s t ∧
      ∀ a ∈ t.air.view, ∃ p ∈ t.peers, p.address = a ∧ ∃ d, p.demandPart = some d ∧
        d.riser = s.cfg.riser ∧ 1 ≤ d.airClass ∧ d.airClass ≤ 3 ∧ s.ageOf d.writtenAt ≤ 3 * s.cfg.demandPeriod))

/-- The three period timers restart and queue their reports (R93, R139, R140, R180), and the pinch timer, started when an episode
begins and left running through it, latches AIR_SHORT with the own demand and grant (R91). That an expiry is taken at the later of
the present time and its due time is the model's choice (log entry 1). -/
def Obligations.ReportTimersQueueTheirReports : Prop :=
  (∀ s : State, s.isRunning = true →
    ∃ t, exec .demandPeriodExpiry s = .next t ∧ t.now = max s.now s.air.demandDue ∧
      t.air.demandDue = t.now + 1000 * s.cfg.demandPeriod ∧ t.air.lastPublished = s.air.lastPublished ∧
      (s.link.queue.length < 8 → t.isQueued .demand = true) ∧ Changes [.now, .published, .queue] s t) ∧
  (∀ s : State, s.isRunning = true →
    ∃ t, exec .statusPeriodExpiry s = .next t ∧ t.now = max s.now s.link.statusDue ∧
      t.link.statusDue = t.now + 1000 * s.cfg.statusPeriod ∧ t.link.runningSince = s.link.runningSince ∧
      (s.link.queue.length < 8 → t.isQueued .roomStatus = true) ∧ Changes [.now, .linkTimers, .queue] s t) ∧
  (∀ (s : State) (due : Nat), s.isRunning = true → s.pair.periodDue = some due →
    ∃ t, exec .pairStatusPeriodExpiry s = .next t ∧ t.now = max s.now due ∧ t.pair.periodDue = some (t.now + 30000) ∧
      t.pair.livenessDue = s.pair.livenessDue ∧
      (s.link.queue.length < 8 → t.isQueued .pairState = true) ∧ Changes [.now, .pairTimers, .queue] s t) ∧
  (∀ (s : State) (due : Nat), s.isRunning = true → s.air.pinchTimer = .running due →
    ∃ t, exec .pinchTimerExpiry s = .next t ∧ t.now = max s.now due ∧ t.air.pinchTimer = .expired ∧
      t.air.grant = s.air.grant ∧ Latched s t (.airShort s.air.demand s.air.grant) ∧
      Changes [.now, .grant, .queue, .latches] s t) ∧
  (∀ s : State, s.air.episode = false → s.recompute.air.grant < s.air.demand → s.air.airClass = 3 →
    s.recompute.air.pinchTimer = .running (s.now + 300000)) ∧
  (∀ s : State, s.air.episode = true → s.recompute.air.grant < s.air.demand → s.air.airClass = 3 →
    s.recompute.air.pinchTimer = s.air.pinchTimer)

/-! ## The Blind Drive (R114 to R128) -/

/-- The ends of a move while nothing waits: a TRAVEL move reaches its target at its due time; a homing ends certain at 0, or goes on
from there as a lowering move to its follow-on target (R115 to R117, R124); and a trip ends the move at the position its timing
gives, a homing at the position it began from, leaves the bank uncertain and latches BLIND_FAULT (R118, R119). That an expiry is
taken at the later of the present time and its due time is the model's choice (log entry 1). So are the held trip line and the bound
of a cut position by its target (log entry 13). -/
def Obligations.MovesEndAtTargetsOrTrips : Prop :=
  (∀ (s : State) (m : Move), s.isRunning = true → s.drive.move = some m → s.drive.waiting = ⟨none, none, none⟩ →
    (m.phase = .travel →
      ∃ t, exec .moveCompletion s = .next t ∧
        t.now = max s.now (m.startAt + distance m.startPos m.target * (10 * (s.cfg.banks.get m.bank).travel)) ∧
        t.drive = { s.drive with pos := s.drive.pos.set m.bank m.target, move := none } ∧
        t.out = { s.out with motorUp := false, motorDown := false } ∧ Changes [.now, .drive, .motor] s t) ∧
    (∀ x, m.phase = .homing x →
      ∃ t, exec .homingEnd s = .next t ∧ t.now = max s.now (m.startAt + 1000 * ((s.cfg.banks.get m.bank).travel + 5)) ∧
        t.drive.pos = s.drive.pos.set m.bank 0 ∧ t.drive.uncertain = s.drive.uncertain.set m.bank false ∧
        (x.pos = 0 → t.drive.move = none ∧ t.out = { s.out with motorUp := false, motorDown := false }) ∧
        (x.pos ≠ 0 →
          t.drive.move = some ⟨m.bank, .travel, .lower, 0, t.now, x.pos, x.origin⟩ ∧
          t.out = { s.out with motorUp := false, motorDown := true, selected := m.bank }) ∧
        Changes [.now, .drive, .motor] s t)) ∧
  (∀ (s : State) (m : Move) (held : Bool), s.isRunning = true → s.drive.move = some m →
    s.drive.waiting = ⟨none, none, none⟩ →
    ∃ t, exec (.trip held) s = .next t ∧ t.drive.move = none ∧ t.out.motorUp = false ∧ t.out.motorDown = false ∧
      t.pins.btrip = held ∧ t.drive.uncertain = s.drive.uncertain.set m.bank true ∧ Latched s t (.blindFault m.bank) ∧
      (m.phase = .travel →
        let run := min ((s.now - m.startAt) / (10 * (s.cfg.banks.get m.bank).travel)) (distance m.startPos m.target)
        t.drive.pos = s.drive.pos.set m.bank (match m.direction with
          | .lower => m.startPos + run
          | .raise => m.startPos - run)) ∧
      (∀ x, m.phase = .homing x → t.drive.pos = s.drive.pos) ∧ Changes [.pins, .drive, .motor, .queue, .latches] s t)

/-- A free supply goes to the waiting request of the highest origin, of equal origins to the lowest bank, and its move starts: a
homing on an uncertain bank, and a TRAVEL move toward the target on another (R116, R123, R124). A request for the bank of a TRAVEL
move retargets it where the target lies ahead, and otherwise cuts it, the request going on from where the bank then stands (R118,
R122). A request for a homing bank becomes its follow-on (R125); one for a bank that stands is discarded where the bank stands
there, and otherwise starts its move, or waits while another bank moves or hold is on (R121, R126); during life-safety a request
of another origin is discarded (R127), and during hold one cuts a bank that moves under SAFETY, and waits unless the bank stands at
its target (R126). With BTRIP asserted no move starts: the bank is uncertain and BLIND_FAULT is latched
(R119). That a cut position is bounded by its target is the model's choice (log entry 13). -/
def Obligations.RequestsAreGrantedOrRetargetTheMove : Prop :=
  (∀ (s : State) (b : Bank) (x : Target), s.drive.move = none → s.pins.btrip = false → s.overrides.hold = false →
    s.drive.waiting.get b = some x → s.standsAt b x = false →
    (∀ b' y, s.drive.waiting.get b' = some y →
      y.origin.rank < x.origin.rank ∨ (y.origin.rank = x.origin.rank ∧ b.number ≤ b'.number)) →
    let t := s.grant
    t.drive.waiting = s.drive.waiting.set b none ∧ t.drive.pos = s.drive.pos ∧ t.out.selected = b ∧
      (s.drive.uncertain.get b = true →
        t.drive.move = some ⟨b, .homing x, .raise, s.drive.pos.get b, s.now, 0, x.origin⟩ ∧
        t.out.motorUp = true ∧ t.out.motorDown = false) ∧
      (s.drive.uncertain.get b = false →
        let d := if s.drive.pos.get b < x.pos then Direction.lower else .raise
        t.drive.move = some ⟨b, .travel, d, s.drive.pos.get b, s.now, x.pos, x.origin⟩ ∧
        t.out.motorUp = decide (d = .raise) ∧ t.out.motorDown = decide (d = .lower)) ∧
      Changes [.drive, .motor] s t) ∧
  (∀ (s : State) (m : Move) (x : Target), s.drive.move = some m → m.phase = .travel → s.lifeSafetyActive = false →
    s.overrides.hold = false → s.pins.btrip = false → s.drive.waiting = ⟨none, none, none⟩ →
    s.drive.uncertain.get m.bank = false →
    let p := s.cutPosition m
    let t := s.requestBank m.bank x
    ((match m.direction with
      | .lower => p < x.pos
      | .raise => x.pos < p) →
      t.drive.move = some { m with target := x.pos, origin := x.origin } ∧ Changes [.drive] s t) ∧
    (¬ (match m.direction with
      | .lower => p < x.pos
      | .raise => x.pos < p) →
      t.drive.pos = s.drive.pos.set m.bank p ∧
      (x.pos = p → t.drive.move = none ∧ t.out.motorUp = false ∧ t.out.motorDown = false) ∧
      (x.pos ≠ p →
        t.drive.move =
          some ⟨m.bank, .travel, if p < x.pos then .lower else .raise, p, s.now, x.pos, x.origin⟩))) ∧
  (∀ (s : State) (b : Bank) (x : Target), s.lifeSafetyActive = true → x.origin ≠ .safety → s.requestBank b x = s) ∧
  (∀ (s : State) (b : Bank) (x : Target), s.lifeSafetyActive = false ∨ x.origin = .safety →
    (∀ m, s.drive.move = some m → m.bank ≠ b) →
    let t := s.requestBank b x
    let stands := s.drive.uncertain.get b = false ∧ s.drive.pos.get b = x.pos
    let waits := s.drive.move.isSome = true ∨ (s.overrides.hold = true ∧ x.origin ≠ .safety)
    (stands → t = { s with drive := { s.drive with waiting := s.drive.waiting.set b none } }) ∧
    (¬ stands → waits → t = { s with drive := { s.drive with waiting := s.drive.waiting.set b (some x) } }) ∧
    (¬ stands → ¬ waits → s.pins.btrip = false →
      let up := s.drive.uncertain.get b = true ∨ x.pos ≤ s.drive.pos.get b
      t.drive = { s.drive with
        waiting := s.drive.waiting.set b none
        move := some ⟨b, if s.drive.uncertain.get b then .homing x else .travel, if up then .raise else .lower,
          s.drive.pos.get b, s.now, if s.drive.uncertain.get b then 0 else x.pos, x.origin⟩ } ∧
      t.out = { s.out with selected := b, motorUp := decide up, motorDown := decide (¬ up) } ∧
      Changes [.drive, .motor] s t)) ∧
  (∀ (s : State) (m : Move) (x y : Target), s.drive.move = some m → m.phase = .homing y →
    s.lifeSafetyActive = false ∨ x.origin = .safety →
    s.overrides.hold = false ∨ m.origin ≠ .safety ∨ x.origin = .safety →
    s.requestBank m.bank x =
      { s with drive := { s.drive with move := some { m with phase := .homing x, origin := x.origin } } }) ∧
  (∀ (s : State) (m : Move) (x : Target), s.drive.move = some m → m.origin = .safety → x.origin ≠ .safety →
    s.overrides.hold = true → s.lifeSafetyActive = false →
    let p := s.currentPosition m.bank
    let left := if s.drive.uncertain.get m.bank = false ∧ p = x.pos then none else some x
    let cut : State := { s with
      drive := { s.drive with pos := s.drive.pos.set m.bank p, waiting := s.drive.waiting.set m.bank left, move := none }
      out := { s.out with motorUp := false, motorDown := false } }
    s.requestBank m.bank x = cut.grant ∧
      ((∀ b y, b ≠ m.bank → s.drive.waiting.get b = some y → y.origin ≠ .safety) → s.requestBank m.bank x = cut)) ∧
  (∀ (s : State) (b : Bank) (x : Target), s.drive.move = none → s.pins.btrip = true → s.overrides.hold = false →
    s.drive.waiting.get b = some x → (∀ b', b' ≠ b → s.drive.waiting.get b' = none) → s.standsAt b x = false →
    let t := s.grant
    t.drive = { s.drive with
      waiting := ⟨none, none, none⟩, uncertain := s.drive.uncertain.set b true } ∧ Latched s t (.blindFault b) ∧
      Changes [.drive, .queue, .latches] s t)

/-! ## The pair (R129 to R146) -/

/-- A PAIR_CTRL message can be queued whatever else is: the queue is in order, and no event kind has priority 0, so that no other
kind stands ahead of it (R172, R174). -/
def MaySendPairCtrl (s : State) : Prop := QueueOk s ∧ ∀ k, 1 ≤ (s.cfg.events.get k).priority

/-- The PAIR_CTRL entry is queued with a message (R173). -/
def Sends (t : State) (m : PairMsg) : Prop := (t.entryOf .pairCtrl).map (·.msg) = some (some m)

/-- From the first state to the second, a joined node has left its role (R142): its timers and its pair values are as after
power-on, and no PAIR_STATE waits. A former lead keeps its room and loses the partner's records alone; a former follower has its
marks set afresh and its occupancy state derived (R59, R68). -/
def PairLeft (s t : State) : Prop :=
  t.pair.livenessDue = none ∧ t.pair.periodDue = none ∧ t.pair.combined = 0 ∧ t.pair.followerCount = 0 ∧
    t.pair.lastSequence = none ∧ t.pair.evidenceFlag = false ∧ t.pair.forwarded = none ∧ t.pair.sequence = 0 ∧
    t.isQueued .pairState = false ∧
    (s.isLead = true →
      t.room = s.room ∧ t.sessions = s.sessions ∧
      ∀ q, t.overrides.records.get q = (s.overrides.records.get q).filter fun r => r.source ≠ s.cfg.partner) ∧
    (s.isFollower = true →
      let fresh := s.evidence.lastEvidence.any fun e => t.now - e < 60000 * s.cfg.vacancyHold
      t.sessions.records = s.sessions.records.map (Session.markAfresh s.clock.minute) ∧ t.room.mirroredId = none ∧
      t.room.occupancy =
        (if s.clock.timeValid then derivedOccupancy s.clock.minute s.sessions.records.head? fresh
        else if fresh then .adhoc else .vacant) ∧
      t.room.current = (if t.room.occupancy.hasRecord then s.sessions.records.head?.map (·.id) else none))

/-- A change of the partition input starts the debounce for 5 s, and its expiry takes the raw reading: OPEN in SINGLE begins
offering, CLOSED leaves any state but SINGLE, each with its message, and a reading that has not changed has no effect (R131, R132,
R137, R142).
That an expiry is taken at the later of the present time and its due time is the model's choice (log entry 1). -/
def Obligations.ThePartitionIsDebounced : Prop :=
  (∀ (s : State) (o : Bool), s.isRunning = true → s.pins.partOpen ≠ o →
    ∃ t, exec (.partChange o) s = .next t ∧ t.pins = { s.pins with partOpen := o } ∧
      t.pair = { s.pair with debounceDue := some (s.now + 5000) } ∧ Changes [.pins, .partition] s t) ∧
  (∀ (s : State) (due : Nat), s.isRunning = true → s.pair.debounceDue = some due →
    ∃ t, exec .debounceExpiry s = .next t ∧ t.now = max s.now due ∧ t.pair.debounceDue = none ∧
      t.pair.readsOpen = s.pins.partOpen ∧
      (s.pins.partOpen = s.pair.readsOpen → Changes [.now, .partition] s t) ∧
      (s.pins.partOpen = true → s.pair.readsOpen = false → s.pair.state = .single → s.isDivisible = true →
        t.pair.state = .offering ∧ t.pair.offerCount = 1 ∧ t.pair.offerDue = some (t.now + 10000) ∧
        (s.link.queue.length < 8 → Sends t .joinOffer) ∧
        Changes [.now, .partition, .pairState, .offers, .queue] s t) ∧
      (s.pins.partOpen = false → s.pair.readsOpen = true → s.pair.state ≠ .single →
        t.pair.state = .single ∧
        (s.pair.state = .offering →
          t.pair.offerDue = none ∧ t.pair.offerCount = 0 ∧
          (s.link.queue.length < 8 → Sends t .joinLeave) ∧
          Changes [.now, .partition, .pairState, .offers, .queue] s t) ∧
        (MaySendPairCtrl s → Sends t .joinLeave) ∧
        (s.pair.state = .partnerLost → t.pair.offerDue = none ∧ t.pair.offerCount = 0) ∧
        (s.isJoined = true → PairLeft s t)))

/-- The offer retry timer offers again: in OFFERING after 10 s while the count is at most 2 and after 60 s from then on, in
PARTNER_LOST every 60 s (R132, R145). 90 s without the partner leave a joined node in PARTNER_LOST, with its event (R142, R144).
That an expiry is taken at the later of the present time and its due time is the model's choice (log entry 1). -/
def Obligations.OffersRepeatAndLivenessEnds : Prop :=
  (∀ (s : State) (due : Nat), s.isRunning = true → s.pair.offerDue = some due →
    ∃ t, exec .offerRetryExpiry s = .next t ∧ t.now = max s.now due ∧ Changes [.now, .offers, .queue] s t ∧
      (s.pair.state = .offering →
        t.pair.offerCount = min 255 (s.pair.offerCount + 1) ∧
        t.pair.offerDue = some (t.now + if t.pair.offerCount ≤ 2 then 10000 else 60000)) ∧
      (s.pair.state = .partnerLost → t.pair.offerDue = some (t.now + 60000) ∧ t.pair.offerCount = s.pair.offerCount) ∧
      (s.pair.state = .offering ∨ s.pair.state = .partnerLost → s.link.queue.length < 8 →
        Sends t .joinOffer)) ∧
  (∀ (s : State) (due : Nat), s.isRunning = true → s.isJoined = true → s.pair.livenessDue = some due →
    ∃ t, exec .livenessExpiry s = .next t ∧ t.now = max s.now due ∧ t.pair.state = .partnerLost ∧
      t.pair.offerDue = some (t.now + 60000) ∧ t.pair.offerCount = 0 ∧ PairLeft s t ∧
      Latched s t (.partnerLost s.cfg.partner))

/-- The role a node takes in a join: the lower address leads (R136). -/
def roleOf (c : ConfigRecord) : PairState := if c.station < c.partner then .joinedLead else .joinedFollow

/-- The partner's M_max is written into the pair part of its record, where one is held or can be (R133, R134, R166, R167). -/
def PartnerMaxWritten (s t : State) (m : Nat) : Prop :=
  (∃ p ∈ s.peers, p.address = s.cfg.partner) ∨ s.peers.length < 48 →
    ∃ p ∈ t.peers, p.address = s.cfg.partner ∧ p.pairPart = some m

/-- A JOIN_OFFER from the partner (R133, R136) writes its M_max, and is answered with JOIN_ACCEPT but where it is refused: a
SINGLE node reading CLOSED refuses it with PARTITION_MISMATCH; a node reading OPEN that is not joined takes its role; a lead takes
the headcount, and either role restarts its liveness. One from elsewhere is ignored (R130). That a headcount above 511 is read as
511 is the model's choice (log entry 12). -/
def Obligations.JoinOffersAreAnswered : Prop :=
  ∀ (f : Frame) (s : State) (m n : Nat), Taken s f 3 → decodeJoinOffer f.payload = some (m, n) →
    ∃ t, exec (.joinOffer f) s = .next t ∧
      (s.isDivisible = false ∨ f.src.toNat ≠ s.cfg.partner → Changes (s.recordingParts f) s t) ∧
      (s.isDivisible = true → f.src.toNat = s.cfg.partner →
        PartnerMaxWritten s t m ∧
        (s.isJoined = true ∨ s.pair.readsOpen = true → MaySendPairCtrl s → Sends t .joinAccept) ∧
        (s.pair.state = .offering ∨ s.pair.state = .partnerLost → s.pair.readsOpen = false → t.pair = s.pair) ∧
        (s.pair.state = .single → s.pair.readsOpen = false →
          t.pair = s.pair ∧ Latched s t (.partitionMismatch s.cfg.partner false) ∧
          (s.link.queue.length ≤ 5 ∨ MaySendPairCtrl s → Sends t .joinRefuse)) ∧
        (s.pair.state ≠ .joinedLead → s.pair.state ≠ .joinedFollow → s.pair.readsOpen = true →
          t.pair.state = roleOf s.cfg ∧ t.pair.livenessDue = some (s.now + 90000) ∧
          t.pair.periodDue = some (s.now + 30000) ∧ t.pair.offerDue = none ∧ t.pair.offerCount = 0 ∧
          (roleOf s.cfg = .joinedLead →
            t.pair.followerCount = min 511 n ∧ t.pair.combined = min 511 (s.evidence.headcount + min 511 n) ∧
            t.pair.lastSequence = none) ∧
          (roleOf s.cfg = .joinedFollow →
            t.room.current = none ∧ t.room.mirroredId = s.room.current ∧ t.pair.forwarded = none)) ∧
        (s.pair.state = .joinedLead →
          t.pair =
            { s.pair with
              livenessDue := some (s.now + 90000), followerCount := min 511 n
              combined := min 511 (s.evidence.headcount + min 511 n) }) ∧
        (s.pair.state = .joinedFollow → t.pair = { s.pair with livenessDue := some (s.now + 90000) }))

/-- A JOIN_ACCEPT from the partner (R134, R136) writes its M_max: an OFFERING or PARTNER_LOST node takes its role, a joined one
restarts its liveness, a SINGLE one does nothing more. A JOIN_REFUSE latches PARTITION_MISMATCH in OFFERING and PARTNER_LOST and
has no effect elsewhere (R135). A JOIN_LEAVE ends a joined or a PARTNER_LOST state, and the node offers again while its partition
reads open (R138, R142). -/
def Obligations.AcceptsRefusalsAndLeavesAreTaken : Prop :=
  (∀ (f : Frame) (s : State) (m : Nat), Taken s f 3 → decodeJoinAccept f.payload = some m →
    ∃ t, exec (.joinAccept f) s = .next t ∧
      (s.isDivisible = false ∨ f.src.toNat ≠ s.cfg.partner → Changes (s.recordingParts f) s t) ∧
      (s.isDivisible = true → f.src.toNat = s.cfg.partner →
        PartnerMaxWritten s t m ∧
        (s.pair.state = .single → t.pair = s.pair) ∧
        (s.isJoined = true → t.pair = { s.pair with livenessDue := some (s.now + 90000) }) ∧
        (s.pair.state = .offering ∨ s.pair.state = .partnerLost →
          t.pair.state = roleOf s.cfg ∧ t.pair.livenessDue = some (s.now + 90000) ∧
          t.pair.periodDue = some (s.now + 30000) ∧ t.pair.offerDue = none ∧ t.pair.offerCount = 0 ∧
          (roleOf s.cfg = .joinedLead → t.pair.followerCount = 0 ∧ t.pair.combined = min 511 s.evidence.headcount)))) ∧
  (∀ (f : Frame) (s : State), Taken s f 3 → s.isDivisible = true → f.src.toNat = s.cfg.partner →
    ∃ t, exec (.joinRefuse f) s = .next t ∧
      (s.pair.state = .offering ∨ s.pair.state = .partnerLost →
        Latched s t (.partitionMismatch s.cfg.partner s.pair.readsOpen) ∧ Changes [.peers, .queue, .latches] s t) ∧
      (s.pair.state ≠ .offering → s.pair.state ≠ .partnerLost → Changes [.peers] s t)) ∧
  (∀ (f : Frame) (s : State), Taken s f 3 → s.isDivisible = true → f.src.toNat = s.cfg.partner →
    ∃ t, exec (.joinLeave f) s = .next t ∧
      (s.pair.state = .single ∨ s.pair.state = .offering → Changes [.peers] s t) ∧
      (s.isJoined = true ∨ s.pair.state = .partnerLost →
        t.pair.readsOpen = s.pair.readsOpen ∧
        (s.pair.readsOpen = true →
          t.pair.state = .offering ∧ t.pair.offerCount = 1 ∧ t.pair.offerDue = some (s.now + 10000) ∧
          (MaySendPairCtrl s → Sends t .joinOffer)) ∧
        (s.pair.readsOpen = false → t.pair.state = .single) ∧
        (s.pair.readsOpen = false → s.pair.state = .partnerLost → t.pair.offerDue = none ∧ t.pair.offerCount = 0)) ∧
      (s.isJoined = true → PairLeft s t)) ∧
  (∀ (f : Frame) (s : State), Taken s f 3 → s.isDivisible = false ∨ f.src.toNat ≠ s.cfg.partner →
    (∃ t, exec (.joinRefuse f) s = .next t ∧ Changes (s.recordingParts f) s t) ∧
      ∃ t, exec (.joinLeave f) s = .next t ∧ Changes (s.recordingParts f) s t)

/-- The expiry that an accepted record takes (R152), held within the wing minutes. -/
def expiryOf (s : State) (level duration : Nat) : Option Nat :=
  if level = 3 then
    match s.followedRecord with
    | some r => some (min maxMinute r.finish)
    | none => some (min maxMinute (s.clock.minute + 120))
  else if duration = 0 then none
  else some (min maxMinute (s.clock.minute + duration))

/-- A PAIR_STATE from the partner (R141, R143, R145): a lead takes the follower's headcount and evidence, and a request of a new
sequence number as a panel request of source partner, the stale records removed first, while a repeat is not handed on; a follower
mirrors the lead's state, session and light values, and a node that has lost its partner offers to it. One of a role that does not
complement the node's, or at a node that is SINGLE or OFFERING, and one from elsewhere are recorded alone (R130, R141). The reading of payload values
out of range is the model's choice (log entry 12). -/
def Obligations.PairStatesAreTaken : Prop :=
  (∀ (f : Frame) (s : State), Taken s f 3 → s.isDivisible = false ∨ f.src.toNat ≠ s.cfg.partner →
    ∃ t, exec (.pairState f) s = .next t ∧ Changes (s.recordingParts f) s t) ∧
  ∀ (f : Frame) (s : State), Taken s f 3 → s.isDivisible = true → f.src.toNat = s.cfg.partner →
    ∃ t, exec (.pairState f) s = .next t ∧
      (s.pair.state = .joinedLead → pairStateRole f.payload ≠ some 1 → Changes [.peers] s t) ∧
      (s.pair.state = .joinedFollow → pairStateRole f.payload ≠ some 0 → Changes [.peers] s t) ∧
      (s.pair.state = .partnerLost → pairStateRole f.payload = none → Changes [.peers] s t) ∧
      (s.pair.state = .joinedLead → pairStateRole f.payload = some 1 →
        let v := decodeFollow f.payload
        t.pair.state = .joinedLead ∧ t.pair.followerCount = v.headcount ∧
          t.pair.combined = min 511 (s.evidence.headcount + v.headcount) ∧ t.pair.livenessDue = some (s.now + 90000) ∧
          (v.evidence = true → t.evidence.lastEvidence = some s.now) ∧
          (v.evidence = false → t.evidence = s.evidence) ∧
          t.pair.lastSequence = (if v.forwarded.isSome then some v.sequence else s.pair.lastSequence) ∧
          (v.forwarded = none ∨ s.pair.lastSequence = some v.sequence → s.room.switchMarker = false →
            t.overrides = s.overrides) ∧
          (∀ k, v.forwarded = some k → s.pair.lastSequence ≠ some v.sequence → s.room.switchMarker = false →
            let kept (q : Quantity) := (s.overrides.records.get q).filter fun r => r.stale.isNone
            let held := ((kept .lightLevel).map (·.value)).getD 0
            let q := if k.key = .scene then Quantity.lightScene else .lightLevel
            let refused (reason : RefusalReason) :=
              Latched s t (.overrideRefused s.cfg.partner (.quantity q) reason) ∧ ∀ q', t.overrides.records.get q' = kept q'
            let outranked := ∃ h, kept q = some h ∧ h.level < 3
            (s.lifeSafetyActive = true → refused .safety) ∧
            (s.lifeSafetyActive = false → s.overrides.hold = true → refused .held) ∧
            (s.lifeSafetyActive = false → s.overrides.hold = false → outranked → refused .outranked) ∧
            (s.lifeSafetyActive = false → s.overrides.hold = false → ¬ outranked →
              ∀ q', t.overrides.records.get q' =
                if q' = q then
                  some
                    { level := 3, source := s.cfg.partner
                      value := if k.key = .scene then k.value else clampInt (-1000) 1000 (held + k.value)
                      expiry := expiryOf s 3 0, stale := none }
                else kept q'))) ∧
      (s.pair.state = .joinedFollow → pairStateRole f.payload = some 0 →
        (decodeLead f.payload = none → Changes [.peers] s t) ∧
        ∀ v, decodeLead f.payload = some v →
          t.pair.state = .joinedFollow ∧ t.room.occupancy = v.occupancy ∧ t.room.mirroredId = v.session ∧
          t.pair.combined = v.combined ∧ t.pair.mirror = v.mirror ∧ t.pair.livenessDue = some (s.now + 90000) ∧
          t.light.policy = t.activeScene.policy ∧ t.light.front = t.activeScene.front ∧
          ∀ b, t.shade.held.get b = t.bankTarget b) ∧
      (s.pair.state = .partnerLost → (pairStateRole f.payload).isSome = true →
        Changes [.peers, .queue] s t ∧
        (s.link.queue.length < 8 → Sends t .joinOffer)) ∧
      (s.pair.state = .single ∨ s.pair.state = .offering → Changes [.peers] s t)

/-! ## Overrides and the panel (R147 to R157) -/

/-- From the first state to the second, the request of an OVERRIDE frame for a quantity was tested (R150): refused for SAFETY,
PRIVILEGE or OUTRANKED, in this order, with OVERRIDE_REFUSED and no other effect, or accepted, as then said. -/
def RequestTested (f : Frame) (s t : State) (v : OverrideFields) (q : Quantity) (accepted : Prop) : Prop :=
  let refused (reason : RefusalReason) :=
    Latched s t (.overrideRefused f.src.toNat (.quantity q) reason) ∧ Changes ([.queue, .latches] ++ s.recordingParts f) s t
  let outranked := ∃ h, s.overrides.records.get q = some h ∧ h.stale = none ∧ h.level < v.level
  let privileged := f.cls.toNat ≤ v.level ∧ (q = .holdVacant → v.level ≤ 1)
  (s.lifeSafetyActive = true → refused .safety) ∧
    (s.lifeSafetyActive = false → ¬ privileged → refused .privilege) ∧
    (s.lifeSafetyActive = false → privileged → outranked → refused .outranked) ∧
    (s.lifeSafetyActive = false → privileged → ¬ outranked → accepted)

/-- An OVERRIDE for this room is tested for SAFETY, PRIVILEGE and OUTRANKED in that order, a refusal latching OVERRIDE_REFUSED, and
an accepted one places the quantity's record alone, its value clamped to the quantity's range (R149, R150, R152). A CLEAR is tested
in the same way, and an accepted one removes the quantity's record alone (R151). A frame for another room, or of an unknown
quantity, a level above 3 or a scene outside 0 to 7 is ignored without event (R149). The stale timer of a record removes it (R153).
That a BLINDS or AIR_BOOST value below 0 is taken as 0, that a scene below 0 is ignored as one above 7 is, and that the value field of
a CLEAR is not looked at, a scene number above 7 in it too, are the model's choices (log entry 17); so is that an expiry is taken at
the later of the present time and its due time (log entry 1). -/
def Obligations.OverridesAreTestedPlacedAndCleared : Prop :=
  (∀ (f : Frame) (s : State) (v : OverrideFields) (q : Quantity), Taken s f 2 → decodeOverride f.payload = some v →
    v.clear = false → Quantity.ofCode v.quantity = some q → v.level ≤ 3 → (q = .lightScene → 0 ≤ v.value ∧ v.value ≤ 7) →
    (v.room = s.cfg.room ∨ (s.cfg.partner ≠ 0 ∧ v.room = s.cfg.pairRoom)) →
    ∃ t, exec (.override f) s = .next t ∧
      RequestTested f s t v q
        (∀ q', t.overrides.records.get q' =
          if q' = q then
            some
              { level := max 1 v.level, source := f.src.toNat, value := clampValue q v.value
                expiry := expiryOf s (max 1 v.level) (min 1440 v.duration), stale := none }
          else s.overrides.records.get q')) ∧
  (∀ (f : Frame) (s : State) (v : OverrideFields) (q : Quantity), Taken s f 2 → decodeOverride f.payload = some v →
    v.clear = true → Quantity.ofCode v.quantity = some q → v.level ≤ 3 →
    (v.room = s.cfg.room ∨ (s.cfg.partner ≠ 0 ∧ v.room = s.cfg.pairRoom)) →
    ∃ t, exec (.overrideClear f) s = .next t ∧
      RequestTested f s t v q
        (∀ q', t.overrides.records.get q' = if q' = q then none else s.overrides.records.get q')) ∧
  (∀ (f : Frame) (s : State) (v : OverrideFields), Taken s f 2 → decodeOverride f.payload = some v →
    (v.room ≠ s.cfg.room ∧ (s.cfg.partner = 0 ∨ v.room ≠ s.cfg.pairRoom)) ∨ Quantity.ofCode v.quantity = none ∨ 3 < v.level ∨
      (v.clear = false ∧ Quantity.ofCode v.quantity = some .lightScene ∧ (v.value < 0 ∨ 7 < v.value)) →
    (∃ t, exec (.override f) s = .next t ∧ Changes (s.recordingParts f) s t) ∧
      ∃ t, exec (.overrideClear f) s = .next t ∧ Changes (s.recordingParts f) s t) ∧
  (∀ (s : State) (q : Quantity) (r : OverrideRecord) (due : Nat), s.isRunning = true →
    s.overrides.records.get q = some r → r.stale = some due →
    ∃ t, exec (.staleTimerExpiry q) s = .next t ∧ t.now = max s.now due ∧
      ∀ q', t.overrides.records.get q' = if q' = q then none else s.overrides.records.get q')

/-- A panel key may place a level-3 record of a quantity: outside life-safety and hold, and over no record that outranks it once the
stale records have gone (R150, R154). -/
structure PanelMayPlace (s : State) (q : Quantity) : Prop where
  running : s.isRunning = true
  unmarked : s.room.switchMarker = false
  safety : s.lifeSafetyActive = false
  hold : s.overrides.hold = false
  rank : ∀ h, s.overrides.records.get q = some h → h.stale = none → 3 ≤ h.level

/-- From the first state to the second, an indicator frame of the room and the active scene was sent, at once or to wait (R157). -/
def IndicatorSent (s t : State) (accepted : Bool) : Prop :=
  (s.overrides.sending = none → t.overrides.sending = some ⟨t.room.occupancy, t.light.scene, accepted⟩) ∧
    (s.overrides.sending.isSome = true → t.overrides.sending = s.overrides.sending ∧
      t.overrides.indicatorWaiting = some ⟨t.room.occupancy, t.light.scene, accepted⟩)

/-- From the first state to the second, a panel key was pressed and accepted (R154, R157): it is PANEL evidence, no stale record is
left, and its indicator frame says so. -/
def KeyAccepted (s t : State) : Prop :=
  t.evidence.lastEvidence = some s.now ∧ (∀ q r, t.overrides.records.get q = some r → r.stale = none) ∧
    IndicatorSent s t true

/-- From the first state to the second, a panel key was pressed and refused (R150, R154, R157): it is PANEL evidence, the stale
records go and the others stand, OVERRIDE_REFUSED is latched with source 0, and its indicator frame has the accepted flag clear.
-/
def KeyRefused (s t : State) (subject : Subject) (reason : RefusalReason) : Prop :=
  t.evidence.lastEvidence = some s.now ∧ IndicatorSent s t false ∧ Latched s t (.overrideRefused 0 subject reason) ∧
    ∀ q, t.overrides.records.get q = (s.overrides.records.get q).filter fun r => r.stale.isNone

/-- Why a panel request for a quantity is refused (R150): the first of life-safety, hold and a record that outranks level 3. -/
def RefusedFor (s : State) (q : Quantity) : RefusalReason → Prop
  | .safety => s.lifeSafetyActive = true
  | .held => s.lifeSafetyActive = false ∧ s.overrides.hold = true
  | .outranked => s.lifeSafetyActive = false ∧ s.overrides.hold = false ∧
      ∃ h, s.overrides.records.get q = some h ∧ h.stale = none ∧ h.level < 3
  | .privilege => False

/-- A panel record of a quantity, placed by a key pressed in the first state: level 3, source 0, not stale, with the expiry of a
level-3 record (R152, R155). -/
def PanelRecord (s t : State) (q : Quantity) (v : Int) : Prop :=
  t.overrides.records.get q = some ⟨3, 0, v, expiryOf s 3 0, none⟩

/-- The SCENE and light keys place their records at a node that is no follower, LIGHT UP and LIGHT DOWN stepping the held value by
50, and are forwarded to the lead at a joined follower (R143, R155). The blind keys and AIR BOOST place theirs at every node: 0,
100, the current position of the bank in motion or of bank 1, and the panel boost ceiling (R120, R155). A key whose request is
refused leaves the records that are not stale, with its event and its indicator (R150, R154, R157); the lead, not the follower,
tests a forwarded key's rank (R143). That BLINDS STOP reads the position once the stale records have gone is the model's choice
(log entry 24). -/
def Obligations.PanelKeysPlaceTheirRecords : Prop :=
  (∀ (s : State) (n : Fin 8),
    (PanelMayPlace s .lightScene → s.isFollower = false →
      ∃ t, exec (.sceneKey n) s = .next t ∧ KeyAccepted s t ∧ PanelRecord s t .lightScene n) ∧
    (PanelMayPlace s .lightLevel → s.isFollower = false →
      let base := match s.overrides.records.lightLevel with
        | some r => if r.stale = none then r.value else 0
        | none => 0
      (∃ t, exec .lightUp s = .next t ∧ KeyAccepted s t ∧ PanelRecord s t .lightLevel (clampInt (-1000) 1000 (base + 50))) ∧
      (∃ t, exec .lightDown s = .next t ∧ KeyAccepted s t ∧
        PanelRecord s t .lightLevel (clampInt (-1000) 1000 (base + -50)))) ∧
    (s.isRunning = true → s.isFollower = true → s.lifeSafetyActive = false → s.overrides.hold = false →
      s.room.switchMarker = false →
      (∃ t, exec (.sceneKey n) s = .next t ∧ KeyAccepted s t ∧ t.pair.forwarded = some ⟨.scene, (n.val : Int)⟩ ∧
        t.pair.sequence = (s.pair.sequence + 1) % 256) ∧
      (∃ t, exec .lightUp s = .next t ∧ KeyAccepted s t ∧ t.pair.forwarded = some ⟨.lightUp, 50⟩ ∧
        t.pair.sequence = (s.pair.sequence + 1) % 256) ∧
      (∃ t, exec .lightDown s = .next t ∧ KeyAccepted s t ∧ t.pair.forwarded = some ⟨.lightDown, -50⟩ ∧
        t.pair.sequence = (s.pair.sequence + 1) % 256))) ∧
  (∀ s : State,
    (PanelMayPlace s .blinds →
      (∃ t, exec .blindsUp s = .next t ∧ KeyAccepted s t ∧ PanelRecord s t .blinds 0) ∧
      (∃ t, exec .blindsDown s = .next t ∧ KeyAccepted s t ∧ PanelRecord s t .blinds 100) ∧
      (∃ t, exec .blindsStop s = .next t ∧ KeyAccepted s t ∧
        PanelRecord s t .blinds (s.keyPressed.currentPosition (match s.keyPressed.drive.move with
          | some m => m.bank
          | none => .bank1) : Int))) ∧
    (PanelMayPlace s .airBoost →
      ∃ t, exec .airBoostKey s = .next t ∧ KeyAccepted s t ∧ PanelRecord s t .airBoost s.cfg.boostCeiling)) ∧
  (∀ (s : State) (reason : RefusalReason), s.isRunning = true → s.room.switchMarker = false →
    (s.isFollower = false ∨ reason ≠ .outranked →
      (RefusedFor s .lightScene reason → ∀ n : Fin 8,
        ∃ t, exec (.sceneKey n) s = .next t ∧ KeyRefused s t (.quantity .lightScene) reason) ∧
      (RefusedFor s .lightLevel reason →
        (∃ t, exec .lightUp s = .next t ∧ KeyRefused s t (.quantity .lightLevel) reason) ∧
        (∃ t, exec .lightDown s = .next t ∧ KeyRefused s t (.quantity .lightLevel) reason))) ∧
    (RefusedFor s .blinds reason →
      (∃ t, exec .blindsUp s = .next t ∧ KeyRefused s t (.quantity .blinds) reason) ∧
      (∃ t, exec .blindsDown s = .next t ∧ KeyRefused s t (.quantity .blinds) reason) ∧
      (∃ t, exec .blindsStop s = .next t ∧ KeyRefused s t (.quantity .blinds) reason)) ∧
    (RefusedFor s .airBoost reason → ∃ t, exec .airBoostKey s = .next t ∧ KeyRefused s t (.quantity .airBoost) reason))

/-- ROOM OFF removes every level-3 record and, in ADHOC, declares vacancy, with its indicator; during life-safety or hold it is
refused with OVERRIDE_REFUSED, and the records that are not stale stand (R37, R156, R157). A panel byte that decodes to no key has
no effect (R154), and the end of an indicator sends the one that waits (R157). -/
def Obligations.RoomOffClearsThePanelRecords : Prop :=
  (∀ s : State, s.isRunning = true → s.room.switchMarker = false →
    ∃ t, exec .roomOff s = .next t ∧
      (s.lifeSafetyActive = false → s.overrides.hold = false →
        (∀ q, t.overrides.records.get q =
          (s.overrides.records.get q).filter fun r => r.stale.isNone && decide (r.level ≠ 3)) ∧
        IndicatorSent s t true ∧
        (s.isFollower = false → s.room.occupancy = .adhoc →
          t.room.occupancy = .vacant ∧ t.evidence.headcount = 0 ∧ t.evidence.lastEvidence = none)) ∧
      (s.lifeSafetyActive = true → KeyRefused s t .roomOff .safety) ∧
      (s.lifeSafetyActive = false → s.overrides.hold = true → KeyRefused s t .roomOff .held)) ∧
  ∀ s : State,
    (∀ b e, exec (.panelByteDiscard b e) s = .next s) ∧
    exec .indicatorSent s =
      .next { s with overrides :=
        { s.overrides with sending := s.overrides.indicatorWaiting, indicatorWaiting := none } }

/-! ## Life-safety and hold (R158 to R160) -/

/-- The second state has begun life-safety from the first (R78, R89, R102, R127, R159): the mode is in force, the lights stand at
1000, the damper as the mode commands, the air record at zero, and every bank is held at 0 with nothing moving away from it. -/
def SafetyBegun (t : State) (m : LifeSafety) : Prop :=
  t.overrides.lifeSafety = m ∧ t.out.dim1 = 1000 ∧ t.out.dim2 = 1000 ∧
    (m = .evacuate → t.out.dmp = 0) ∧ (∀ p, m = .smokeHold p → t.out.dmp = min 1000 p) ∧
    t.air.demand = 0 ∧ t.air.floor = 0 ∧ t.air.airClass = 0 ∧ t.air.grant = 0 ∧
    (∀ b, t.shade.held.get b = some ⟨0, .safety⟩) ∧ (∀ m', t.drive.move = some m' → m'.towardOpen) ∧
    ∀ b x, t.drive.waiting.get b = some x → x.pos = 0

/-- The second state has ended life-safety: no mode is in force, the own record is what its inputs give, and outside hold the lights
and the damper are at their computed values (R78, R89, R102, R159). -/
def SafetyEnded (s t : State) : Prop :=
  t.overrides.lifeSafety = .off ∧ t.heldRecord = t.ownRecord ∧ t.air.airClass ≠ 0 ∧
    (s.overrides.hold = false → t.out.dim1 = t.light.front ∧ t.out.dim2 = t.light.restLevel ∧
      t.out.dmp = min 1000 (t.air.grant * 1000 / s.cfg.mMax)) ∧
    (s.overrides.hold = true → t.out.dim1 = s.out.dim1 ∧ t.out.dim2 = s.out.dim2 ∧ t.out.dmp = s.out.dmp) ∧
    ∀ b, t.shade.held.get b = t.bankTarget b

/-- Life-safety begins with an EVACUATE or SMOKE_HOLD frame or with the FIRE input, whatever the hold; it ends with a CLEAR frame
while FIRE is negated, or with FIRE while the frame mode is CLEAR; a CLEAR while FIRE is asserted leaves EVACUATE in force (R158,
R159). A change between EVACUATE and SMOKE_HOLD reaches the damper alone (R159). In CONFIG_FAULT FIRE switches the fixed outputs
(R183). That it does so while the retry reads too, the fixed outputs standing there, and that the select lines stand, are the model's
choices (log entry 24). -/
def Obligations.LifeSafetyBeginsAndEnds : Prop :=
  (∀ (f : Frame) (s : State), Taken s f 0 → SafetyOk s → s.overrides.lifeSafety = .off →
    (decodeLifeSafety f.payload = some .evacuate →
      ∃ t, exec (.lifeSafetyEvacuate f) s = .next t ∧ t.overrides.frameMode = .evacuate ∧ SafetyBegun t .evacuate) ∧
    (∀ p, decodeLifeSafety f.payload = some (.smokeHold p) →
      ∃ t, exec (.lifeSafetySmokeHold f) s = .next t ∧ t.overrides.frameMode = .smokeHold p ∧
        SafetyBegun t (.smokeHold p))) ∧
  (∀ s : State, s.isRunning = true → SafetyOk s → s.overrides.frameMode = .off → s.overrides.lifeSafety = .off →
    ∃ t, exec (.fireChange true) s = .next t ∧ t.pins.fire = true ∧ t.overrides.frameMode = .off ∧
      SafetyBegun t .evacuate) ∧
  (∀ (f : Frame) (s : State), Taken s f 0 → AirOk s → s.lifeSafetyActive = true →
    decodeLifeSafety f.payload = some .off →
    ∃ t, exec (.lifeSafetyClear f) s = .next t ∧ t.overrides.frameMode = .off ∧
      (s.pins.fire = false → SafetyEnded s t) ∧ (s.pins.fire = true → t.overrides.lifeSafety = .evacuate)) ∧
  (∀ s : State, s.isRunning = true → AirOk s → s.lifeSafetyActive = true → s.overrides.frameMode = .off →
    ∃ t, exec (.fireChange false) s = .next t ∧ t.pins.fire = false ∧ SafetyEnded s t) ∧
  (∀ (f : Frame) (s : State), Taken s f 0 → s.lifeSafetyActive = true →
    (decodeLifeSafety f.payload = some .evacuate → s.overrides.lifeSafety ≠ .evacuate →
      ∃ t, exec (.lifeSafetyEvacuate f) s = .next t ∧ t.overrides.frameMode = .evacuate ∧
        t.overrides.lifeSafety = .evacuate ∧ t.out.dmp = 0 ∧ Changes ([.modes, .damper] ++ s.recordingParts f) s t) ∧
    (∀ p, decodeLifeSafety f.payload = some (.smokeHold p) → s.overrides.lifeSafety ≠ .smokeHold p →
      ∃ t, exec (.lifeSafetySmokeHold f) s = .next t ∧ t.overrides.frameMode = .smokeHold p ∧
        t.overrides.lifeSafety = .smokeHold p ∧ t.out.dmp = min 1000 p ∧
        Changes ([.modes, .damper] ++ s.recordingParts f) s t)) ∧
  (∀ (s : State) (asserted : Bool), (∃ due, s.phase = .configFault due) ∨ (∃ n b, s.phase = .reading .retry n b) →
    ∃ t, exec (.fireChange asserted) s = .next t ∧ t.pins = { s.pins with fire := asserted } ∧
      t.out = { s.out with
        dim1 := if asserted then 1000 else 500, dim2 := if asserted then 1000 else 500
        dmp := if asserted then 0 else 250, motorUp := false, motorDown := false } ∧
      Changes [.pins, .dims, .damper, .motor] s t)

/-- HOLD ON keeps the outputs and leaves no move in flight but one for safety, the target of the cut move waiting unless the bank
stands there (R118, R126); HOLD OFF puts the computed values on the outputs, makes the drive's grant and issues every held target
again in bank order, which leaves the drive as the grant alone leaves it where each bank waits for its held target or stands at it
(R89, R102, R113, R123, R126, R160). That the grant comes before the requests is the model's choice (log entry 30). -/
def Obligations.HoldFreezesAndReleasesTheOutputs : Prop :=
  (∀ (f : Frame) (s : State) (target : Nat), Taken s f 1 → decodeHold f.payload = some (target, true) →
    ∃ t, exec (.holdOn f) s = .next t ∧
      (target = s.cfg.station ∨ target = 127 → s.overrides.hold = false →
        t.overrides.hold = true ∧ (∀ m, t.drive.move = some m → m.origin = .safety) ∧
        (∀ m, s.drive.move = some m → m.origin ≠ .safety →
          (∀ b y, s.drive.waiting.get b = some y → y.origin ≠ .safety) →
          let asked : Target := match m.phase with
            | .travel => ⟨m.target, m.origin⟩
            | .homing y => y
          let p := s.currentPosition m.bank
          let left := if s.drive.uncertain.get m.bank = false ∧ p = asked.pos then none else some asked
          t.drive.pos = s.drive.pos.set m.bank p ∧
          (asked.origin ≠ .safety →
            t.drive.uncertain = s.drive.uncertain ∧ t.drive.move = none ∧ t.out.motorUp = false ∧ t.out.motorDown = false ∧
            t.drive.waiting = s.drive.waiting.set m.bank left)) ∧
        Changes ([.hold, .drive, .motor, .queue, .latches] ++ s.recordingParts f) s t) ∧
      (target ≠ s.cfg.station ∧ target ≠ 127 ∨ s.overrides.hold = true → Changes (s.recordingParts f) s t)) ∧
  (∀ (f : Frame) (s : State) (target : Nat), Taken s f 1 → decodeHold f.payload = some (target, false) →
    ∃ t, exec (.holdOff f) s = .next t ∧
      (target = s.cfg.station ∨ target = 127 → s.overrides.hold = true →
        t.overrides.hold = false ∧
        (s.lifeSafetyActive = false →
          t.out.dim1 = s.light.front ∧ t.out.dim2 = s.light.restLevel ∧
          t.out.dmp = min 1000 (t.air.grant * 1000 / s.cfg.mMax)) ∧
        (s.lifeSafetyActive = true → t.out.dim1 = 1000 ∧ t.out.dim2 = 1000 ∧ t.out.dmp = s.out.dmp) ∧
        (let w : State := { s.recordPeer f.src.toNat with overrides := { s.overrides with hold := false } }
          let out : Outputs :=
            if s.lifeSafetyActive then { w.out with dim1 := 1000, dim2 := 1000 }
            else { w.out with dim1 := w.light.front, dim2 := w.light.restLevel, dmp := min 1000 (w.air.grant * 1000 / s.cfg.mMax) }
          let granted := { w with out := out }.grant
          t = [Bank.bank1, .bank2, .bank3].foldl
            (fun v b => match v.shade.held.get b with
              | some y => v.requestBank b y
              | none => v) granted ∧
          (s.drive.move = none → s.pins.btrip = false →
            (∀ b y, s.shade.held.get b = some y →
              (s.drive.waiting.get b = some y ∧ s.standsAt b y = false) ∨
                (s.drive.waiting.get b = none ∧ s.standsAt b y = true)) →
            t.drive = granted.drive)) ∧
        Changes ([.hold, .dims, .damper, .drive, .motor, .queue, .latches] ++ s.recordingParts f) s t) ∧
      (target ≠ s.cfg.station ∧ target ≠ 127 ∨ s.overrides.hold = false → Changes (s.recordingParts f) s t))

/-! ## The report queue and the transmit path (R168 to R181) -/

/-- A kind queued into a full queue takes the place of the least urgent entry that is not in flight, if it stands ahead of it, and
is otherwise not placed; a kind already queued keeps its entry, marked for requeue while it is in flight (R172 to R174). An
occurrence of an event sets a clear latch with its detail and counts on a set one, to at most 255; while its EVENT is in flight it
goes to the later part instead (R176), and while a ROOM_STATUS carries the flag of a disabled kind, to both (R179). An enabled
kind is queued where there is room (R177), and a refill takes the waiting kinds in the order EVENT 1 to 16 (R175). -/
def Obligations.ReportsAreQueuedAndOccurrencesLatched : Prop :=
  (∀ (s : State) (k : ReportKind), QueueOk s →
    let t := s.queueReport k
    Changes [.queue] s t ∧
    (s.isQueued k = true → t.link.queue = s.link.queue.map fun e =>
      if e.kind = k then { e with msg := none, requeue := e.requeue || s.inFlight k } else e) ∧
    (s.isQueued k = false → s.link.queue.length < 8 →
      ∀ e, e ∈ t.link.queue ↔ e ∈ s.link.queue ∨ e = ⟨k, 0, false, none⟩) ∧
    (s.isQueued k = false → s.link.queue.length = 8 →
      (∀ e ∈ s.link.queue, s.inFlight e.kind = true ∨ urgency s.cfg e.kind ≤ urgency s.cfg k) → t = s) ∧
    (s.isQueued k = false → s.link.queue.length = 8 →
      ∀ v ∈ s.link.queue, s.inFlight v.kind = false → urgency s.cfg k < urgency s.cfg v.kind →
        (∀ e ∈ s.link.queue, s.inFlight e.kind = true ∨ urgency s.cfg e.kind ≤ urgency s.cfg v.kind) →
        ∀ e, e ∈ t.link.queue ↔ (e ∈ s.link.queue ∧ e ≠ v) ∨ e = ⟨k, 0, false, none⟩)) ∧
  (∀ (s : State) (d : Detail),
    let t := s.latchEvent d
    Changes [.queue, .latches] s t ∧
    (s.link.latches.get d.kind = none → t.link.latches.get d.kind = some ⟨d, 1, none⟩) ∧
    (∀ l, s.link.latches.get d.kind = some l → s.inFlight (.event d.kind) = false → s.statusCarries d.kind = false →
      t.link.latches.get d.kind = some { l with count := min 255 (l.count + 1) }) ∧
    (∀ l, s.link.latches.get d.kind = some l →
      let later : LaterPart := match l.later with
        | none => ⟨d, 1⟩
        | some p => { p with count := min 255 (p.count + 1) }
      (s.inFlight (.event d.kind) = true → t.link.latches.get d.kind = some { l with later := some later }) ∧
      (s.inFlight (.event d.kind) = false → s.statusCarries d.kind = true →
        t.link.latches.get d.kind = some { l with count := min 255 (l.count + 1), later := some later })) ∧
    (∀ k, k ≠ d.kind → t.link.latches.get k = s.link.latches.get k) ∧
    ((s.cfg.events.get d.kind).enabled = true → s.link.queue.length < 8 → t.isQueued (.event d.kind) = true) ∧
    ((s.cfg.events.get d.kind).enabled = false → t.link.queue = s.link.queue)) ∧
  (∀ s : State,
    let t := s.refill
    let waits (k : EventKind) : Bool :=
      (s.cfg.events.get k).enabled && (s.link.latches.get k).isSome && !s.isQueued (.event k)
    Changes [.queue] s t ∧ (∀ e ∈ s.link.queue, e ∈ t.link.queue) ∧
      (∀ e ∈ t.link.queue, e ∈ s.link.queue ∨ ∃ k, waits k = true ∧ e = ⟨.event k, 0, false, none⟩) ∧
      ∀ k, waits k = true →
        (t.isQueued (.event k) = true ↔
          s.link.queue.length + (EventKind.all.filter fun j => waits j && decide (j.number < k.number)).length < 8))

/-- The detail bytes of an EVENT from byte 2 on, as R190 lays them out by kind. -/
def detailAt (p : List Byte) : Detail → Prop
  | .sessionBegin i | .overrun i => u16 p 2 = i % 65536
  | .sessionEnd i overran => u16 p 2 = i % 65536 ∧ byteAt p 4 = if overran then 1 else 0
  | .release i reason => u16 p 2 = i % 65536 ∧ byteAt p 4 = match reason with
    | .noShow => 0
    | .earlyLeave => 1
  | .adhoc n => u16 p 2 = n % 65536
  | .airShort x g => u16 p 2 = x % 65536 ∧ u16 p 4 = g % 65536
  | .sensorFault i => byteAt p 2 = match i with
    | .co2 => 0
    | .photo => 1
    | .irrad => 2
    | .door => 3
  | .blindFault b => byteAt p 2 = b.number
  | .ttRefused i reason => u16 p 2 = i % 65536 ∧ byteAt p 4 = match reason with
    | .overlap => 0
    | .past => 1
    | .full => 2
    | .badField => 3
  | .ttDone g n m reason => byteAt p 2 = g % 256 ∧ byteAt p 3 = n % 256 ∧ byteAt p 4 = m % 256 ∧ byteAt p 5 = match reason with
    | .complete => 0
    | .indexGap => 1
    | .timeout => 2
    | .superseded => 3
    | .restart => 4
  | .partitionMismatch a o => byteAt p 2 = a % 256 ∧ byteAt p 3 = if o then 1 else 0
  | .partnerLost a => byteAt p 2 = a % 256
  | .overrideRefused a subject reason => byteAt p 2 = a % 256 ∧
    (byteAt p 3 = match subject with
      | .quantity .lightScene => 0
      | .quantity .lightLevel => 1
      | .quantity .blinds => 2
      | .quantity .airBoost => 3
      | .quantity .holdVacant => 4
      | .frame k => (0x40 + k) % 256
      | .roomOff => 0x0F) ∧
    byteAt p 4 = match reason with
      | .privilege => 0
      | .outranked => 1
      | .safety => 2
      | .held => 3
  | .linkFault type a => (byteAt p 2 = match type with
    | .crc => 0
    | .framing => 1
    | .length => 2) ∧ byteAt p 3 = a % 256
  | .txAbandoned c n => byteAt p 2 = c % 256 ∧ byteAt p 3 = n % 256
  | .configClamped i => byteAt p 2 = i % 256

/-- An attempt starts with the head of the queue and puts its whole frame on the line, of sender class 3 from the own address,
with the payload as its owner's state stands, and with the mask of the disabled latched kinds (R168, R179, R188). It does not
start while an attempt, a backoff or a long pause runs, or with nothing queued. ROOM_STATUS, IDENTITY and EVENT are laid out as
R178, R180 and R190 say; the silicon revision in IDENTITY is left open (log entry 4). -/
def Obligations.AttemptsSendTheHeadOfTheQueue : Prop :=
  (∀ s : State, s.isRunning = true →
    (∀ e rest, s.link.queue = e :: rest → s.link.attempt = none → s.link.backoff = none → s.link.longPause = none →
      ∃ t a, exec .attemptStart s = .next t ∧ t.link.attempt = some a ∧ a.kind = e.kind ∧ a.orphan = false ∧
        a.attempts = e.attempts ∧
        a.bytes = 0x96#8 :: frameBody s.cfg.station 3 (e.kind.code e.msg) (s.payloadOf e) ∧
        a.demand = s.air.demand ∧ a.evidence = s.pair.evidenceFlag ∧
        (∀ k : EventKind, a.mask.getLsbD (k.number - 1) =
          (!(s.cfg.events.get k).enabled && (s.link.latches.get k).isSome)) ∧
        Changes [.attempt] s t) ∧
    (s.link.queue = [] ∨ s.link.attempt.isSome = true ∨ s.link.backoff.isSome = true ∨ s.link.longPause.isSome = true →
      exec .attemptStart s = .next s)) ∧
  (∀ (s : State) (n : Nat) (r : Bool) (m : Option PairMsg),
    (let p := s.payloadOf ⟨.roomStatus, n, r, m⟩
    let level (q : Quantity) := ((s.overrides.records.get q).map (·.level)).getD 0
    p.length = 24 ∧
      byteAt p 0 = s.room.occupancy.code + 8 * s.pair.state.code + (if s.overrides.hold then 64 else 0) +
        (if s.air.pinch then 128 else 0) ∧
      (s.air.airClass ≤ 3 → s.light.scene ≤ 7 →
        byteAt p 1 = s.air.airClass + 4 * s.overrides.lifeSafety.code + 16 * s.light.scene +
          128 * (s.evidence.headcount / 256 % 2)) ∧
      u16 p 2 = s.sessionId.getD 0 % 65536 ∧ byteAt p 4 = s.evidence.headcount % 256 ∧
      u16 p 5 = s.evidence.co2.getD 0xFFFF % 65536 ∧ u16 p 7 = s.air.demand % 65536 ∧ u16 p 9 = s.air.floor % 65536 ∧
      u16 p 11 = s.air.grant % 65536 ∧ u16 p 13 = s.out.dim1 % 65536 ∧ u16 p 15 = s.out.dim2 % 65536 ∧
      (∀ b : Bank, s.currentPosition b ≤ 100 →
        byteAt p (16 + b.number) = s.currentPosition b + if s.drive.uncertain.get b then 128 else 0) ∧
      ((∀ q, level q ≤ 3) →
        u16 p 20 = level .lightScene + 4 * level .lightLevel + 16 * level .blinds + 64 * level .airBoost +
          256 * level .holdVacant) ∧
      ∀ k : EventKind, (u16 p 22).testBit (k.number - 1) =
        (!(s.cfg.events.get k).enabled && (s.link.latches.get k).isSome)) ∧
    (let p := s.payloadOf ⟨.identity, n, r, m⟩
    p.length = 15 ∧ u16 p 0 = 0x4D57 ∧ u16 p 2 = 0x0D02 ∧ p[4]? = some Config.siliconRevision ∧
      byteAt p 5 = s.cfg.station % 256 ∧ u16 p 6 = s.cfg.room % 65536 ∧
      u16 p 8 = (if s.cfg.partner = 0 then 0 else s.cfg.pairRoom % 65536) ∧ byteAt p 10 = s.cfg.partner % 256 ∧
      byteAt p 11 = s.cfg.riser % 256 ∧ byteAt p 12 = (if s.loader.clampedAtStart then 1 else 0) ∧
      u16 p 13 = min 65535 ((s.now - s.link.runningSince) / 60000)) ∧
    ∀ (k : EventKind) (l : Latch), s.link.latches.get k = some l → l.detail.kind = k →
      let p := s.payloadOf ⟨.event k, n, r, m⟩
      p.length = 8 ∧ byteAt p 0 = k.number ∧ byteAt p 1 = l.count % 256 ∧ detailAt p l.detail ∧
        ∀ i, 2 + l.detail.bytes.length ≤ i → byteAt p i = 0)

/-- The completion of a sending takes its entry from the queue and its owner acts; a latch goes on with its later part, or is clear,
after an EVENT that reported it, and after a ROOM_STATUS that carried its flag (R92, R93, R139, R140, R170, R173, R178 to R180). -/
def Obligations.CompletionsEndTheirReports : Prop :=
  ∀ (s : State) (a : Attempt), s.isRunning = true → s.link.attempt = some a → QueueOk s →
    let goneOn (l : Option Latch) : Option Latch :=
      match l.bind (·.later) with
      | some p => some ⟨p.detail, p.count, none⟩
      | none => none
    ∃ t, exec .transmitCompletion s = .next t ∧ t.link.attempt = none ∧
      (a.orphan = true → Changes [.attempt] s t) ∧
      (∀ e, a.orphan = false → s.entryOf a.kind = some e →
        (a.kind = .demand → t.air.lastPublished = some a.demand ∧ t.air.demandDue = s.now + 1000 * s.cfg.demandPeriod) ∧
        (a.kind = .roomStatus →
          t.link.statusDue = s.now + 1000 * s.cfg.statusPeriod ∧
          ∀ k, t.link.latches.get k =
            if a.mask.getLsbD (k.number - 1) then goneOn (s.link.latches.get k) else s.link.latches.get k) ∧
        (a.kind = .pairState → s.isJoined = true →
          t.pair.periodDue = some (s.now + 30000) ∧
          t.pair.evidenceFlag = (s.pair.evidenceFlag && !(a.evidence && !a.evidenceSince))) ∧
        (∀ k l, a.kind = .event k → s.link.latches.get k = some l →
          t.link.latches.get k = goneOn (some l) ∧ t.isQueued (.event k) = l.later.isSome) ∧
        ((∀ k, a.kind ≠ .event k) → t.isQueued a.kind = e.requeue))

/-- A collision (R164, R169, R171, R173, R178, R179): the attempt and a frame being gathered end, the later parts are folded in,
and the entry's count rises by one; before the eighth a backoff of less than 2^m slots is drawn, m the lesser of the count and 4,
and at the eighth the entry is abandoned with TX_ABANDONED, naming its frame kind and event number, and a pause of 2 s, DEMAND,
ROOM_STATUS and PAIR_STATE leaving the queue, and the other kinds staying with their count set back. A backoff and a pause end in their time. The drawn number of slots is a free value
(log entry 3). That an attempt whose entry was removed draws its backoff too (log entry 14), and that TX_ABANDONED names the frame
that was in flight, also where a newer PAIR_CTRL message has replaced the entry's, and may in a full queue take the place of the abandoned entry where
that is the least urgent (log entry 15), are the model's choices; and so are
that a backoff ends at its command, whatever the slots drawn (log entry 15), and that an expiry is taken at the later of the present
time and its due time (log entry 1). -/
def Obligations.CollisionsBackOffOrAbandon : Prop :=
  (∀ (s : State) (a : Attempt), s.isRunning = true → s.link.attempt = some a →
    ∃ t, exec .collision s = .next t ∧ t.link.attempt = none ∧ t.link.receiver = none ∧
      Changes [.receiver, .attempt, .pauses, .queue, .latches, .draws] s t ∧
      (a.orphan = true ∨ a.attempts + 1 < 8 →
        (∃ n, t.link.backoff = some n ∧ n < 2 ^ min (a.attempts + 1) 4) ∧ t.link.longPause = s.link.longPause ∧
        t.draws = s.draws + 1) ∧
      (a.orphan = true → t.link.queue = s.link.queue ∧ t.link.latches = s.link.latches) ∧
      (a.orphan = false → a.attempts + 1 < 8 →
        t.link.queue = s.link.queue.map fun e =>
          if e.kind = a.kind then { e with attempts := a.attempts + 1, requeue := false } else e) ∧
      (a.orphan = false → 8 ≤ a.attempts + 1 →
        t.link.longPause = some (s.now + 2000) ∧ t.link.backoff = s.link.backoff ∧ t.draws = s.draws ∧
        (a.kind = .demand ∨ a.kind = .roomStatus ∨ a.kind = .pairState → t.isQueued a.kind = false) ∧
        ((∃ k, a.kind = .event k) ∨ a.kind = .pairCtrl ∨ a.kind = .identity →
          (∀ e ∈ t.link.queue, e.kind = a.kind → e.attempts = 0 ∧ e.requeue = false) ∧
          (QueueOk s → (s.entryOf a.kind).isSome = true →
            s.link.queue.length < 8 ∨ s.isQueued (.event .txAbandoned) = true ∨ s.eventEnabled .txAbandoned = false ∨
              urgency s.cfg a.kind < urgency s.cfg (.event .txAbandoned) ∨
              (∃ e ∈ s.link.queue, urgency s.cfg a.kind < urgency s.cfg e.kind) →
            t.entryOf a.kind = (s.entryOf a.kind).map fun e => { e with attempts := 0, requeue := false }))) ∧
      (a.orphan = false →
        let number := match a.kind with
          | .event k => k.number
          | _ => 0
        let folded (k : EventKind) : Option Latch := (s.link.latches.get k).map fun l =>
          if a.kind = .event k then
            (match l.later with
            | some p => { l with count := min 255 (l.count + p.count), later := none }
            | none => l)
          else if a.kind = .roomStatus then { l with later := none } else l
        ∀ k, t.link.latches.get k =
          if k = .txAbandoned ∧ 8 ≤ a.attempts + 1 then
            some (match folded k with
              | some l => { l with count := min 255 (l.count + 1) }
              | none => ⟨.txAbandoned (a.kind.code a.msg) number, 1, none⟩)
          else folded k)) ∧
  ∀ s : State, s.isRunning = true →
    exec .backoffEnd s = .next { s with link := { s.link with backoff := none } } ∧
    ∀ due, s.link.longPause = some due →
      exec .longPauseEnd s = .next { s with now := max s.now due, link := { s.link with longPause := none } }
end

