-- ==== Sys2Proof/Laws/State.lean ====
section
/-! SUPPORT. What each update of one block leaves in each field of the state: one lemma a field and update, true by definition,
so that no later proof unfolds a record update. -/

namespace Sys2Proof.Machine

/-! ### modLink -/

@[simp] theorem State.modLink_now (s : State) (f : Link → Link) : (s.modLink f).now = s.now := rfl
@[simp] theorem State.modLink_phase (s : State) (f : Link → Link) : (s.modLink f).phase = s.phase := rfl
@[simp] theorem State.modLink_loader (s : State) (f : Link → Link) : (s.modLink f).loader = s.loader := rfl
@[simp] theorem State.modLink_pins (s : State) (f : Link → Link) : (s.modLink f).pins = s.pins := rfl
@[simp] theorem State.modLink_out (s : State) (f : Link → Link) : (s.modLink f).out = s.out := rfl
@[simp] theorem State.modLink_link (s : State) (f : Link → Link) : (s.modLink f).link = f s.link := rfl
@[simp] theorem State.modLink_peers (s : State) (f : Link → Link) : (s.modLink f).peers = s.peers := rfl
@[simp] theorem State.modLink_clock (s : State) (f : Link → Link) : (s.modLink f).clock = s.clock := rfl
@[simp] theorem State.modLink_sessions (s : State) (f : Link → Link) : (s.modLink f).sessions = s.sessions := rfl
@[simp] theorem State.modLink_evidence (s : State) (f : Link → Link) : (s.modLink f).evidence = s.evidence := rfl
@[simp] theorem State.modLink_room (s : State) (f : Link → Link) : (s.modLink f).room = s.room := rfl
@[simp] theorem State.modLink_air (s : State) (f : Link → Link) : (s.modLink f).air = s.air := rfl
@[simp] theorem State.modLink_light (s : State) (f : Link → Link) : (s.modLink f).light = s.light := rfl
@[simp] theorem State.modLink_shade (s : State) (f : Link → Link) : (s.modLink f).shade = s.shade := rfl
@[simp] theorem State.modLink_drive (s : State) (f : Link → Link) : (s.modLink f).drive = s.drive := rfl
@[simp] theorem State.modLink_pair (s : State) (f : Link → Link) : (s.modLink f).pair = s.pair := rfl
@[simp] theorem State.modLink_overrides (s : State) (f : Link → Link) : (s.modLink f).overrides = s.overrides := rfl
@[simp] theorem State.modLink_draws (s : State) (f : Link → Link) : (s.modLink f).draws = s.draws := rfl
@[simp] theorem State.modLink_line (s : State) (f : Link → Link) : (s.modLink f).line = s.line := rfl
@[simp] theorem State.modLink_pending (s : State) (f : Link → Link) : (s.modLink f).pending = s.pending := rfl
@[simp] theorem State.modLink_cfg (s : State) (f : Link → Link) : (s.modLink f).cfg = s.cfg := rfl

/-! ### modClock -/

@[simp] theorem State.modClock_now (s : State) (f : Clock → Clock) : (s.modClock f).now = s.now := rfl
@[simp] theorem State.modClock_phase (s : State) (f : Clock → Clock) : (s.modClock f).phase = s.phase := rfl
@[simp] theorem State.modClock_loader (s : State) (f : Clock → Clock) : (s.modClock f).loader = s.loader := rfl
@[simp] theorem State.modClock_pins (s : State) (f : Clock → Clock) : (s.modClock f).pins = s.pins := rfl
@[simp] theorem State.modClock_out (s : State) (f : Clock → Clock) : (s.modClock f).out = s.out := rfl
@[simp] theorem State.modClock_link (s : State) (f : Clock → Clock) : (s.modClock f).link = s.link := rfl
@[simp] theorem State.modClock_peers (s : State) (f : Clock → Clock) : (s.modClock f).peers = s.peers := rfl
@[simp] theorem State.modClock_clock (s : State) (f : Clock → Clock) : (s.modClock f).clock = f s.clock := rfl
@[simp] theorem State.modClock_sessions (s : State) (f : Clock → Clock) : (s.modClock f).sessions = s.sessions := rfl
@[simp] theorem State.modClock_evidence (s : State) (f : Clock → Clock) : (s.modClock f).evidence = s.evidence := rfl
@[simp] theorem State.modClock_room (s : State) (f : Clock → Clock) : (s.modClock f).room = s.room := rfl
@[simp] theorem State.modClock_air (s : State) (f : Clock → Clock) : (s.modClock f).air = s.air := rfl
@[simp] theorem State.modClock_light (s : State) (f : Clock → Clock) : (s.modClock f).light = s.light := rfl
@[simp] theorem State.modClock_shade (s : State) (f : Clock → Clock) : (s.modClock f).shade = s.shade := rfl
@[simp] theorem State.modClock_drive (s : State) (f : Clock → Clock) : (s.modClock f).drive = s.drive := rfl
@[simp] theorem State.modClock_pair (s : State) (f : Clock → Clock) : (s.modClock f).pair = s.pair := rfl
@[simp] theorem State.modClock_overrides (s : State) (f : Clock → Clock) : (s.modClock f).overrides = s.overrides := rfl
@[simp] theorem State.modClock_draws (s : State) (f : Clock → Clock) : (s.modClock f).draws = s.draws := rfl
@[simp] theorem State.modClock_line (s : State) (f : Clock → Clock) : (s.modClock f).line = s.line := rfl
@[simp] theorem State.modClock_pending (s : State) (f : Clock → Clock) : (s.modClock f).pending = s.pending := rfl
@[simp] theorem State.modClock_cfg (s : State) (f : Clock → Clock) : (s.modClock f).cfg = s.cfg := rfl

/-! ### modSessions -/

@[simp] theorem State.modSessions_now (s : State) (f : Sessions → Sessions) : (s.modSessions f).now = s.now := rfl
@[simp] theorem State.modSessions_phase (s : State) (f : Sessions → Sessions) : (s.modSessions f).phase = s.phase := rfl
@[simp] theorem State.modSessions_loader (s : State) (f : Sessions → Sessions) : (s.modSessions f).loader = s.loader := rfl
@[simp] theorem State.modSessions_pins (s : State) (f : Sessions → Sessions) : (s.modSessions f).pins = s.pins := rfl
@[simp] theorem State.modSessions_out (s : State) (f : Sessions → Sessions) : (s.modSessions f).out = s.out := rfl
@[simp] theorem State.modSessions_link (s : State) (f : Sessions → Sessions) : (s.modSessions f).link = s.link := rfl
@[simp] theorem State.modSessions_peers (s : State) (f : Sessions → Sessions) : (s.modSessions f).peers = s.peers := rfl
@[simp] theorem State.modSessions_clock (s : State) (f : Sessions → Sessions) : (s.modSessions f).clock = s.clock := rfl
@[simp] theorem State.modSessions_sessions (s : State) (f : Sessions → Sessions) : (s.modSessions f).sessions = f s.sessions := rfl
@[simp] theorem State.modSessions_evidence (s : State) (f : Sessions → Sessions) : (s.modSessions f).evidence = s.evidence := rfl
@[simp] theorem State.modSessions_room (s : State) (f : Sessions → Sessions) : (s.modSessions f).room = s.room := rfl
@[simp] theorem State.modSessions_air (s : State) (f : Sessions → Sessions) : (s.modSessions f).air = s.air := rfl
@[simp] theorem State.modSessions_light (s : State) (f : Sessions → Sessions) : (s.modSessions f).light = s.light := rfl
@[simp] theorem State.modSessions_shade (s : State) (f : Sessions → Sessions) : (s.modSessions f).shade = s.shade := rfl
@[simp] theorem State.modSessions_drive (s : State) (f : Sessions → Sessions) : (s.modSessions f).drive = s.drive := rfl
@[simp] theorem State.modSessions_pair (s : State) (f : Sessions → Sessions) : (s.modSessions f).pair = s.pair := rfl
@[simp] theorem State.modSessions_overrides (s : State) (f : Sessions → Sessions) : (s.modSessions f).overrides = s.overrides := rfl
@[simp] theorem State.modSessions_draws (s : State) (f : Sessions → Sessions) : (s.modSessions f).draws = s.draws := rfl
@[simp] theorem State.modSessions_line (s : State) (f : Sessions → Sessions) : (s.modSessions f).line = s.line := rfl
@[simp] theorem State.modSessions_pending (s : State) (f : Sessions → Sessions) : (s.modSessions f).pending = s.pending := rfl
@[simp] theorem State.modSessions_cfg (s : State) (f : Sessions → Sessions) : (s.modSessions f).cfg = s.cfg := rfl

/-! ### modEvidence -/

@[simp] theorem State.modEvidence_now (s : State) (f : Evidence → Evidence) : (s.modEvidence f).now = s.now := rfl
@[simp] theorem State.modEvidence_phase (s : State) (f : Evidence → Evidence) : (s.modEvidence f).phase = s.phase := rfl
@[simp] theorem State.modEvidence_loader (s : State) (f : Evidence → Evidence) : (s.modEvidence f).loader = s.loader := rfl
@[simp] theorem State.modEvidence_pins (s : State) (f : Evidence → Evidence) : (s.modEvidence f).pins = s.pins := rfl
@[simp] theorem State.modEvidence_out (s : State) (f : Evidence → Evidence) : (s.modEvidence f).out = s.out := rfl
@[simp] theorem State.modEvidence_link (s : State) (f : Evidence → Evidence) : (s.modEvidence f).link = s.link := rfl
@[simp] theorem State.modEvidence_peers (s : State) (f : Evidence → Evidence) : (s.modEvidence f).peers = s.peers := rfl
@[simp] theorem State.modEvidence_clock (s : State) (f : Evidence → Evidence) : (s.modEvidence f).clock = s.clock := rfl
@[simp] theorem State.modEvidence_sessions (s : State) (f : Evidence → Evidence) : (s.modEvidence f).sessions = s.sessions := rfl
@[simp] theorem State.modEvidence_evidence (s : State) (f : Evidence → Evidence) : (s.modEvidence f).evidence = f s.evidence := rfl
@[simp] theorem State.modEvidence_room (s : State) (f : Evidence → Evidence) : (s.modEvidence f).room = s.room := rfl
@[simp] theorem State.modEvidence_air (s : State) (f : Evidence → Evidence) : (s.modEvidence f).air = s.air := rfl
@[simp] theorem State.modEvidence_light (s : State) (f : Evidence → Evidence) : (s.modEvidence f).light = s.light := rfl
@[simp] theorem State.modEvidence_shade (s : State) (f : Evidence → Evidence) : (s.modEvidence f).shade = s.shade := rfl
@[simp] theorem State.modEvidence_drive (s : State) (f : Evidence → Evidence) : (s.modEvidence f).drive = s.drive := rfl
@[simp] theorem State.modEvidence_pair (s : State) (f : Evidence → Evidence) : (s.modEvidence f).pair = s.pair := rfl
@[simp] theorem State.modEvidence_overrides (s : State) (f : Evidence → Evidence) : (s.modEvidence f).overrides = s.overrides := rfl
@[simp] theorem State.modEvidence_draws (s : State) (f : Evidence → Evidence) : (s.modEvidence f).draws = s.draws := rfl
@[simp] theorem State.modEvidence_line (s : State) (f : Evidence → Evidence) : (s.modEvidence f).line = s.line := rfl
@[simp] theorem State.modEvidence_pending (s : State) (f : Evidence → Evidence) : (s.modEvidence f).pending = s.pending := rfl
@[simp] theorem State.modEvidence_cfg (s : State) (f : Evidence → Evidence) : (s.modEvidence f).cfg = s.cfg := rfl

/-! ### modRoom -/

@[simp] theorem State.modRoom_now (s : State) (f : Room → Room) : (s.modRoom f).now = s.now := rfl
@[simp] theorem State.modRoom_phase (s : State) (f : Room → Room) : (s.modRoom f).phase = s.phase := rfl
@[simp] theorem State.modRoom_loader (s : State) (f : Room → Room) : (s.modRoom f).loader = s.loader := rfl
@[simp] theorem State.modRoom_pins (s : State) (f : Room → Room) : (s.modRoom f).pins = s.pins := rfl
@[simp] theorem State.modRoom_out (s : State) (f : Room → Room) : (s.modRoom f).out = s.out := rfl
@[simp] theorem State.modRoom_link (s : State) (f : Room → Room) : (s.modRoom f).link = s.link := rfl
@[simp] theorem State.modRoom_peers (s : State) (f : Room → Room) : (s.modRoom f).peers = s.peers := rfl
@[simp] theorem State.modRoom_clock (s : State) (f : Room → Room) : (s.modRoom f).clock = s.clock := rfl
@[simp] theorem State.modRoom_sessions (s : State) (f : Room → Room) : (s.modRoom f).sessions = s.sessions := rfl
@[simp] theorem State.modRoom_evidence (s : State) (f : Room → Room) : (s.modRoom f).evidence = s.evidence := rfl
@[simp] theorem State.modRoom_room (s : State) (f : Room → Room) : (s.modRoom f).room = f s.room := rfl
@[simp] theorem State.modRoom_air (s : State) (f : Room → Room) : (s.modRoom f).air = s.air := rfl
@[simp] theorem State.modRoom_light (s : State) (f : Room → Room) : (s.modRoom f).light = s.light := rfl
@[simp] theorem State.modRoom_shade (s : State) (f : Room → Room) : (s.modRoom f).shade = s.shade := rfl
@[simp] theorem State.modRoom_drive (s : State) (f : Room → Room) : (s.modRoom f).drive = s.drive := rfl
@[simp] theorem State.modRoom_pair (s : State) (f : Room → Room) : (s.modRoom f).pair = s.pair := rfl
@[simp] theorem State.modRoom_overrides (s : State) (f : Room → Room) : (s.modRoom f).overrides = s.overrides := rfl
@[simp] theorem State.modRoom_draws (s : State) (f : Room → Room) : (s.modRoom f).draws = s.draws := rfl
@[simp] theorem State.modRoom_line (s : State) (f : Room → Room) : (s.modRoom f).line = s.line := rfl
@[simp] theorem State.modRoom_pending (s : State) (f : Room → Room) : (s.modRoom f).pending = s.pending := rfl
@[simp] theorem State.modRoom_cfg (s : State) (f : Room → Room) : (s.modRoom f).cfg = s.cfg := rfl

/-! ### modAir -/

@[simp] theorem State.modAir_now (s : State) (f : Air → Air) : (s.modAir f).now = s.now := rfl
@[simp] theorem State.modAir_phase (s : State) (f : Air → Air) : (s.modAir f).phase = s.phase := rfl
@[simp] theorem State.modAir_loader (s : State) (f : Air → Air) : (s.modAir f).loader = s.loader := rfl
@[simp] theorem State.modAir_pins (s : State) (f : Air → Air) : (s.modAir f).pins = s.pins := rfl
@[simp] theorem State.modAir_out (s : State) (f : Air → Air) : (s.modAir f).out = s.out := rfl
@[simp] theorem State.modAir_link (s : State) (f : Air → Air) : (s.modAir f).link = s.link := rfl
@[simp] theorem State.modAir_peers (s : State) (f : Air → Air) : (s.modAir f).peers = s.peers := rfl
@[simp] theorem State.modAir_clock (s : State) (f : Air → Air) : (s.modAir f).clock = s.clock := rfl
@[simp] theorem State.modAir_sessions (s : State) (f : Air → Air) : (s.modAir f).sessions = s.sessions := rfl
@[simp] theorem State.modAir_evidence (s : State) (f : Air → Air) : (s.modAir f).evidence = s.evidence := rfl
@[simp] theorem State.modAir_room (s : State) (f : Air → Air) : (s.modAir f).room = s.room := rfl
@[simp] theorem State.modAir_air (s : State) (f : Air → Air) : (s.modAir f).air = f s.air := rfl
@[simp] theorem State.modAir_light (s : State) (f : Air → Air) : (s.modAir f).light = s.light := rfl
@[simp] theorem State.modAir_shade (s : State) (f : Air → Air) : (s.modAir f).shade = s.shade := rfl
@[simp] theorem State.modAir_drive (s : State) (f : Air → Air) : (s.modAir f).drive = s.drive := rfl
@[simp] theorem State.modAir_pair (s : State) (f : Air → Air) : (s.modAir f).pair = s.pair := rfl
@[simp] theorem State.modAir_overrides (s : State) (f : Air → Air) : (s.modAir f).overrides = s.overrides := rfl
@[simp] theorem State.modAir_draws (s : State) (f : Air → Air) : (s.modAir f).draws = s.draws := rfl
@[simp] theorem State.modAir_line (s : State) (f : Air → Air) : (s.modAir f).line = s.line := rfl
@[simp] theorem State.modAir_pending (s : State) (f : Air → Air) : (s.modAir f).pending = s.pending := rfl
@[simp] theorem State.modAir_cfg (s : State) (f : Air → Air) : (s.modAir f).cfg = s.cfg := rfl

/-! ### modLight -/

@[simp] theorem State.modLight_now (s : State) (f : Light → Light) : (s.modLight f).now = s.now := rfl
@[simp] theorem State.modLight_phase (s : State) (f : Light → Light) : (s.modLight f).phase = s.phase := rfl
@[simp] theorem State.modLight_loader (s : State) (f : Light → Light) : (s.modLight f).loader = s.loader := rfl
@[simp] theorem State.modLight_pins (s : State) (f : Light → Light) : (s.modLight f).pins = s.pins := rfl
@[simp] theorem State.modLight_out (s : State) (f : Light → Light) : (s.modLight f).out = s.out := rfl
@[simp] theorem State.modLight_link (s : State) (f : Light → Light) : (s.modLight f).link = s.link := rfl
@[simp] theorem State.modLight_peers (s : State) (f : Light → Light) : (s.modLight f).peers = s.peers := rfl
@[simp] theorem State.modLight_clock (s : State) (f : Light → Light) : (s.modLight f).clock = s.clock := rfl
@[simp] theorem State.modLight_sessions (s : State) (f : Light → Light) : (s.modLight f).sessions = s.sessions := rfl
@[simp] theorem State.modLight_evidence (s : State) (f : Light → Light) : (s.modLight f).evidence = s.evidence := rfl
@[simp] theorem State.modLight_room (s : State) (f : Light → Light) : (s.modLight f).room = s.room := rfl
@[simp] theorem State.modLight_air (s : State) (f : Light → Light) : (s.modLight f).air = s.air := rfl
@[simp] theorem State.modLight_light (s : State) (f : Light → Light) : (s.modLight f).light = f s.light := rfl
@[simp] theorem State.modLight_shade (s : State) (f : Light → Light) : (s.modLight f).shade = s.shade := rfl
@[simp] theorem State.modLight_drive (s : State) (f : Light → Light) : (s.modLight f).drive = s.drive := rfl
@[simp] theorem State.modLight_pair (s : State) (f : Light → Light) : (s.modLight f).pair = s.pair := rfl
@[simp] theorem State.modLight_overrides (s : State) (f : Light → Light) : (s.modLight f).overrides = s.overrides := rfl
@[simp] theorem State.modLight_draws (s : State) (f : Light → Light) : (s.modLight f).draws = s.draws := rfl
@[simp] theorem State.modLight_line (s : State) (f : Light → Light) : (s.modLight f).line = s.line := rfl
@[simp] theorem State.modLight_pending (s : State) (f : Light → Light) : (s.modLight f).pending = s.pending := rfl
@[simp] theorem State.modLight_cfg (s : State) (f : Light → Light) : (s.modLight f).cfg = s.cfg := rfl

/-! ### modShade -/

@[simp] theorem State.modShade_now (s : State) (f : Shade → Shade) : (s.modShade f).now = s.now := rfl
@[simp] theorem State.modShade_phase (s : State) (f : Shade → Shade) : (s.modShade f).phase = s.phase := rfl
@[simp] theorem State.modShade_loader (s : State) (f : Shade → Shade) : (s.modShade f).loader = s.loader := rfl
@[simp] theorem State.modShade_pins (s : State) (f : Shade → Shade) : (s.modShade f).pins = s.pins := rfl
@[simp] theorem State.modShade_out (s : State) (f : Shade → Shade) : (s.modShade f).out = s.out := rfl
@[simp] theorem State.modShade_link (s : State) (f : Shade → Shade) : (s.modShade f).link = s.link := rfl
@[simp] theorem State.modShade_peers (s : State) (f : Shade → Shade) : (s.modShade f).peers = s.peers := rfl
@[simp] theorem State.modShade_clock (s : State) (f : Shade → Shade) : (s.modShade f).clock = s.clock := rfl
@[simp] theorem State.modShade_sessions (s : State) (f : Shade → Shade) : (s.modShade f).sessions = s.sessions := rfl
@[simp] theorem State.modShade_evidence (s : State) (f : Shade → Shade) : (s.modShade f).evidence = s.evidence := rfl
@[simp] theorem State.modShade_room (s : State) (f : Shade → Shade) : (s.modShade f).room = s.room := rfl
@[simp] theorem State.modShade_air (s : State) (f : Shade → Shade) : (s.modShade f).air = s.air := rfl
@[simp] theorem State.modShade_light (s : State) (f : Shade → Shade) : (s.modShade f).light = s.light := rfl
@[simp] theorem State.modShade_shade (s : State) (f : Shade → Shade) : (s.modShade f).shade = f s.shade := rfl
@[simp] theorem State.modShade_drive (s : State) (f : Shade → Shade) : (s.modShade f).drive = s.drive := rfl
@[simp] theorem State.modShade_pair (s : State) (f : Shade → Shade) : (s.modShade f).pair = s.pair := rfl
@[simp] theorem State.modShade_overrides (s : State) (f : Shade → Shade) : (s.modShade f).overrides = s.overrides := rfl
@[simp] theorem State.modShade_draws (s : State) (f : Shade → Shade) : (s.modShade f).draws = s.draws := rfl
@[simp] theorem State.modShade_line (s : State) (f : Shade → Shade) : (s.modShade f).line = s.line := rfl
@[simp] theorem State.modShade_pending (s : State) (f : Shade → Shade) : (s.modShade f).pending = s.pending := rfl
@[simp] theorem State.modShade_cfg (s : State) (f : Shade → Shade) : (s.modShade f).cfg = s.cfg := rfl

/-! ### modDrive -/

@[simp] theorem State.modDrive_now (s : State) (f : Drive → Drive) : (s.modDrive f).now = s.now := rfl
@[simp] theorem State.modDrive_phase (s : State) (f : Drive → Drive) : (s.modDrive f).phase = s.phase := rfl
@[simp] theorem State.modDrive_loader (s : State) (f : Drive → Drive) : (s.modDrive f).loader = s.loader := rfl
@[simp] theorem State.modDrive_pins (s : State) (f : Drive → Drive) : (s.modDrive f).pins = s.pins := rfl
@[simp] theorem State.modDrive_out (s : State) (f : Drive → Drive) : (s.modDrive f).out = s.out := rfl
@[simp] theorem State.modDrive_link (s : State) (f : Drive → Drive) : (s.modDrive f).link = s.link := rfl
@[simp] theorem State.modDrive_peers (s : State) (f : Drive → Drive) : (s.modDrive f).peers = s.peers := rfl
@[simp] theorem State.modDrive_clock (s : State) (f : Drive → Drive) : (s.modDrive f).clock = s.clock := rfl
@[simp] theorem State.modDrive_sessions (s : State) (f : Drive → Drive) : (s.modDrive f).sessions = s.sessions := rfl
@[simp] theorem State.modDrive_evidence (s : State) (f : Drive → Drive) : (s.modDrive f).evidence = s.evidence := rfl
@[simp] theorem State.modDrive_room (s : State) (f : Drive → Drive) : (s.modDrive f).room = s.room := rfl
@[simp] theorem State.modDrive_air (s : State) (f : Drive → Drive) : (s.modDrive f).air = s.air := rfl
@[simp] theorem State.modDrive_light (s : State) (f : Drive → Drive) : (s.modDrive f).light = s.light := rfl
@[simp] theorem State.modDrive_shade (s : State) (f : Drive → Drive) : (s.modDrive f).shade = s.shade := rfl
@[simp] theorem State.modDrive_drive (s : State) (f : Drive → Drive) : (s.modDrive f).drive = f s.drive := rfl
@[simp] theorem State.modDrive_pair (s : State) (f : Drive → Drive) : (s.modDrive f).pair = s.pair := rfl
@[simp] theorem State.modDrive_overrides (s : State) (f : Drive → Drive) : (s.modDrive f).overrides = s.overrides := rfl
@[simp] theorem State.modDrive_draws (s : State) (f : Drive → Drive) : (s.modDrive f).draws = s.draws := rfl
@[simp] theorem State.modDrive_line (s : State) (f : Drive → Drive) : (s.modDrive f).line = s.line := rfl
@[simp] theorem State.modDrive_pending (s : State) (f : Drive → Drive) : (s.modDrive f).pending = s.pending := rfl
@[simp] theorem State.modDrive_cfg (s : State) (f : Drive → Drive) : (s.modDrive f).cfg = s.cfg := rfl

/-! ### modPair -/

@[simp] theorem State.modPair_now (s : State) (f : Pair → Pair) : (s.modPair f).now = s.now := rfl
@[simp] theorem State.modPair_phase (s : State) (f : Pair → Pair) : (s.modPair f).phase = s.phase := rfl
@[simp] theorem State.modPair_loader (s : State) (f : Pair → Pair) : (s.modPair f).loader = s.loader := rfl
@[simp] theorem State.modPair_pins (s : State) (f : Pair → Pair) : (s.modPair f).pins = s.pins := rfl
@[simp] theorem State.modPair_out (s : State) (f : Pair → Pair) : (s.modPair f).out = s.out := rfl
@[simp] theorem State.modPair_link (s : State) (f : Pair → Pair) : (s.modPair f).link = s.link := rfl
@[simp] theorem State.modPair_peers (s : State) (f : Pair → Pair) : (s.modPair f).peers = s.peers := rfl
@[simp] theorem State.modPair_clock (s : State) (f : Pair → Pair) : (s.modPair f).clock = s.clock := rfl
@[simp] theorem State.modPair_sessions (s : State) (f : Pair → Pair) : (s.modPair f).sessions = s.sessions := rfl
@[simp] theorem State.modPair_evidence (s : State) (f : Pair → Pair) : (s.modPair f).evidence = s.evidence := rfl
@[simp] theorem State.modPair_room (s : State) (f : Pair → Pair) : (s.modPair f).room = s.room := rfl
@[simp] theorem State.modPair_air (s : State) (f : Pair → Pair) : (s.modPair f).air = s.air := rfl
@[simp] theorem State.modPair_light (s : State) (f : Pair → Pair) : (s.modPair f).light = s.light := rfl
@[simp] theorem State.modPair_shade (s : State) (f : Pair → Pair) : (s.modPair f).shade = s.shade := rfl
@[simp] theorem State.modPair_drive (s : State) (f : Pair → Pair) : (s.modPair f).drive = s.drive := rfl
@[simp] theorem State.modPair_pair (s : State) (f : Pair → Pair) : (s.modPair f).pair = f s.pair := rfl
@[simp] theorem State.modPair_overrides (s : State) (f : Pair → Pair) : (s.modPair f).overrides = s.overrides := rfl
@[simp] theorem State.modPair_draws (s : State) (f : Pair → Pair) : (s.modPair f).draws = s.draws := rfl
@[simp] theorem State.modPair_line (s : State) (f : Pair → Pair) : (s.modPair f).line = s.line := rfl
@[simp] theorem State.modPair_pending (s : State) (f : Pair → Pair) : (s.modPair f).pending = s.pending := rfl
@[simp] theorem State.modPair_cfg (s : State) (f : Pair → Pair) : (s.modPair f).cfg = s.cfg := rfl

/-! ### modOverrides -/

@[simp] theorem State.modOverrides_now (s : State) (f : Overrides → Overrides) : (s.modOverrides f).now = s.now := rfl
@[simp] theorem State.modOverrides_phase (s : State) (f : Overrides → Overrides) : (s.modOverrides f).phase = s.phase := rfl
@[simp] theorem State.modOverrides_loader (s : State) (f : Overrides → Overrides) : (s.modOverrides f).loader = s.loader := rfl
@[simp] theorem State.modOverrides_pins (s : State) (f : Overrides → Overrides) : (s.modOverrides f).pins = s.pins := rfl
@[simp] theorem State.modOverrides_out (s : State) (f : Overrides → Overrides) : (s.modOverrides f).out = s.out := rfl
@[simp] theorem State.modOverrides_link (s : State) (f : Overrides → Overrides) : (s.modOverrides f).link = s.link := rfl
@[simp] theorem State.modOverrides_peers (s : State) (f : Overrides → Overrides) : (s.modOverrides f).peers = s.peers := rfl
@[simp] theorem State.modOverrides_clock (s : State) (f : Overrides → Overrides) : (s.modOverrides f).clock = s.clock := rfl
@[simp] theorem State.modOverrides_sessions (s : State) (f : Overrides → Overrides) : (s.modOverrides f).sessions = s.sessions := rfl
@[simp] theorem State.modOverrides_evidence (s : State) (f : Overrides → Overrides) : (s.modOverrides f).evidence = s.evidence := rfl
@[simp] theorem State.modOverrides_room (s : State) (f : Overrides → Overrides) : (s.modOverrides f).room = s.room := rfl
@[simp] theorem State.modOverrides_air (s : State) (f : Overrides → Overrides) : (s.modOverrides f).air = s.air := rfl
@[simp] theorem State.modOverrides_light (s : State) (f : Overrides → Overrides) : (s.modOverrides f).light = s.light := rfl
@[simp] theorem State.modOverrides_shade (s : State) (f : Overrides → Overrides) : (s.modOverrides f).shade = s.shade := rfl
@[simp] theorem State.modOverrides_drive (s : State) (f : Overrides → Overrides) : (s.modOverrides f).drive = s.drive := rfl
@[simp] theorem State.modOverrides_pair (s : State) (f : Overrides → Overrides) : (s.modOverrides f).pair = s.pair := rfl
@[simp] theorem State.modOverrides_overrides (s : State) (f : Overrides → Overrides) : (s.modOverrides f).overrides = f s.overrides := rfl
@[simp] theorem State.modOverrides_draws (s : State) (f : Overrides → Overrides) : (s.modOverrides f).draws = s.draws := rfl
@[simp] theorem State.modOverrides_line (s : State) (f : Overrides → Overrides) : (s.modOverrides f).line = s.line := rfl
@[simp] theorem State.modOverrides_pending (s : State) (f : Overrides → Overrides) : (s.modOverrides f).pending = s.pending := rfl
@[simp] theorem State.modOverrides_cfg (s : State) (f : Overrides → Overrides) : (s.modOverrides f).cfg = s.cfg := rfl

/-! ### modOut -/

@[simp] theorem State.modOut_now (s : State) (f : Outputs → Outputs) : (s.modOut f).now = s.now := rfl
@[simp] theorem State.modOut_phase (s : State) (f : Outputs → Outputs) : (s.modOut f).phase = s.phase := rfl
@[simp] theorem State.modOut_loader (s : State) (f : Outputs → Outputs) : (s.modOut f).loader = s.loader := rfl
@[simp] theorem State.modOut_pins (s : State) (f : Outputs → Outputs) : (s.modOut f).pins = s.pins := rfl
@[simp] theorem State.modOut_out (s : State) (f : Outputs → Outputs) : (s.modOut f).out = f s.out := rfl
@[simp] theorem State.modOut_link (s : State) (f : Outputs → Outputs) : (s.modOut f).link = s.link := rfl
@[simp] theorem State.modOut_peers (s : State) (f : Outputs → Outputs) : (s.modOut f).peers = s.peers := rfl
@[simp] theorem State.modOut_clock (s : State) (f : Outputs → Outputs) : (s.modOut f).clock = s.clock := rfl
@[simp] theorem State.modOut_sessions (s : State) (f : Outputs → Outputs) : (s.modOut f).sessions = s.sessions := rfl
@[simp] theorem State.modOut_evidence (s : State) (f : Outputs → Outputs) : (s.modOut f).evidence = s.evidence := rfl
@[simp] theorem State.modOut_room (s : State) (f : Outputs → Outputs) : (s.modOut f).room = s.room := rfl
@[simp] theorem State.modOut_air (s : State) (f : Outputs → Outputs) : (s.modOut f).air = s.air := rfl
@[simp] theorem State.modOut_light (s : State) (f : Outputs → Outputs) : (s.modOut f).light = s.light := rfl
@[simp] theorem State.modOut_shade (s : State) (f : Outputs → Outputs) : (s.modOut f).shade = s.shade := rfl
@[simp] theorem State.modOut_drive (s : State) (f : Outputs → Outputs) : (s.modOut f).drive = s.drive := rfl
@[simp] theorem State.modOut_pair (s : State) (f : Outputs → Outputs) : (s.modOut f).pair = s.pair := rfl
@[simp] theorem State.modOut_overrides (s : State) (f : Outputs → Outputs) : (s.modOut f).overrides = s.overrides := rfl
@[simp] theorem State.modOut_draws (s : State) (f : Outputs → Outputs) : (s.modOut f).draws = s.draws := rfl
@[simp] theorem State.modOut_line (s : State) (f : Outputs → Outputs) : (s.modOut f).line = s.line := rfl
@[simp] theorem State.modOut_pending (s : State) (f : Outputs → Outputs) : (s.modOut f).pending = s.pending := rfl
@[simp] theorem State.modOut_cfg (s : State) (f : Outputs → Outputs) : (s.modOut f).cfg = s.cfg := rfl

/-! ### modPins -/

@[simp] theorem State.modPins_now (s : State) (f : Pins → Pins) : (s.modPins f).now = s.now := rfl
@[simp] theorem State.modPins_phase (s : State) (f : Pins → Pins) : (s.modPins f).phase = s.phase := rfl
@[simp] theorem State.modPins_loader (s : State) (f : Pins → Pins) : (s.modPins f).loader = s.loader := rfl
@[simp] theorem State.modPins_pins (s : State) (f : Pins → Pins) : (s.modPins f).pins = f s.pins := rfl
@[simp] theorem State.modPins_out (s : State) (f : Pins → Pins) : (s.modPins f).out = s.out := rfl
@[simp] theorem State.modPins_link (s : State) (f : Pins → Pins) : (s.modPins f).link = s.link := rfl
@[simp] theorem State.modPins_peers (s : State) (f : Pins → Pins) : (s.modPins f).peers = s.peers := rfl
@[simp] theorem State.modPins_clock (s : State) (f : Pins → Pins) : (s.modPins f).clock = s.clock := rfl
@[simp] theorem State.modPins_sessions (s : State) (f : Pins → Pins) : (s.modPins f).sessions = s.sessions := rfl
@[simp] theorem State.modPins_evidence (s : State) (f : Pins → Pins) : (s.modPins f).evidence = s.evidence := rfl
@[simp] theorem State.modPins_room (s : State) (f : Pins → Pins) : (s.modPins f).room = s.room := rfl
@[simp] theorem State.modPins_air (s : State) (f : Pins → Pins) : (s.modPins f).air = s.air := rfl
@[simp] theorem State.modPins_light (s : State) (f : Pins → Pins) : (s.modPins f).light = s.light := rfl
@[simp] theorem State.modPins_shade (s : State) (f : Pins → Pins) : (s.modPins f).shade = s.shade := rfl
@[simp] theorem State.modPins_drive (s : State) (f : Pins → Pins) : (s.modPins f).drive = s.drive := rfl
@[simp] theorem State.modPins_pair (s : State) (f : Pins → Pins) : (s.modPins f).pair = s.pair := rfl
@[simp] theorem State.modPins_overrides (s : State) (f : Pins → Pins) : (s.modPins f).overrides = s.overrides := rfl
@[simp] theorem State.modPins_draws (s : State) (f : Pins → Pins) : (s.modPins f).draws = s.draws := rfl
@[simp] theorem State.modPins_line (s : State) (f : Pins → Pins) : (s.modPins f).line = s.line := rfl
@[simp] theorem State.modPins_pending (s : State) (f : Pins → Pins) : (s.modPins f).pending = s.pending := rfl
@[simp] theorem State.modPins_cfg (s : State) (f : Pins → Pins) : (s.modPins f).cfg = s.cfg := rfl

/-! ### withPeers -/

@[simp] theorem State.withPeers_now (s : State) (ps : List Peer) : (s.withPeers ps).now = s.now := rfl
@[simp] theorem State.withPeers_phase (s : State) (ps : List Peer) : (s.withPeers ps).phase = s.phase := rfl
@[simp] theorem State.withPeers_loader (s : State) (ps : List Peer) : (s.withPeers ps).loader = s.loader := rfl
@[simp] theorem State.withPeers_pins (s : State) (ps : List Peer) : (s.withPeers ps).pins = s.pins := rfl
@[simp] theorem State.withPeers_out (s : State) (ps : List Peer) : (s.withPeers ps).out = s.out := rfl
@[simp] theorem State.withPeers_link (s : State) (ps : List Peer) : (s.withPeers ps).link = s.link := rfl
@[simp] theorem State.withPeers_peers (s : State) (ps : List Peer) : (s.withPeers ps).peers = ps := rfl
@[simp] theorem State.withPeers_clock (s : State) (ps : List Peer) : (s.withPeers ps).clock = s.clock := rfl
@[simp] theorem State.withPeers_sessions (s : State) (ps : List Peer) : (s.withPeers ps).sessions = s.sessions := rfl
@[simp] theorem State.withPeers_evidence (s : State) (ps : List Peer) : (s.withPeers ps).evidence = s.evidence := rfl
@[simp] theorem State.withPeers_room (s : State) (ps : List Peer) : (s.withPeers ps).room = s.room := rfl
@[simp] theorem State.withPeers_air (s : State) (ps : List Peer) : (s.withPeers ps).air = s.air := rfl
@[simp] theorem State.withPeers_light (s : State) (ps : List Peer) : (s.withPeers ps).light = s.light := rfl
@[simp] theorem State.withPeers_shade (s : State) (ps : List Peer) : (s.withPeers ps).shade = s.shade := rfl
@[simp] theorem State.withPeers_drive (s : State) (ps : List Peer) : (s.withPeers ps).drive = s.drive := rfl
@[simp] theorem State.withPeers_pair (s : State) (ps : List Peer) : (s.withPeers ps).pair = s.pair := rfl
@[simp] theorem State.withPeers_overrides (s : State) (ps : List Peer) : (s.withPeers ps).overrides = s.overrides := rfl
@[simp] theorem State.withPeers_draws (s : State) (ps : List Peer) : (s.withPeers ps).draws = s.draws := rfl
@[simp] theorem State.withPeers_line (s : State) (ps : List Peer) : (s.withPeers ps).line = s.line := rfl
@[simp] theorem State.withPeers_pending (s : State) (ps : List Peer) : (s.withPeers ps).pending = s.pending := rfl
@[simp] theorem State.withPeers_cfg (s : State) (ps : List Peer) : (s.withPeers ps).cfg = s.cfg := rfl

/-! ### withPhase -/

@[simp] theorem State.withPhase_now (s : State) (p : NodePhase) : (s.withPhase p).now = s.now := rfl
@[simp] theorem State.withPhase_phase (s : State) (p : NodePhase) : (s.withPhase p).phase = p := rfl
@[simp] theorem State.withPhase_loader (s : State) (p : NodePhase) : (s.withPhase p).loader = s.loader := rfl
@[simp] theorem State.withPhase_pins (s : State) (p : NodePhase) : (s.withPhase p).pins = s.pins := rfl
@[simp] theorem State.withPhase_out (s : State) (p : NodePhase) : (s.withPhase p).out = s.out := rfl
@[simp] theorem State.withPhase_link (s : State) (p : NodePhase) : (s.withPhase p).link = s.link := rfl
@[simp] theorem State.withPhase_peers (s : State) (p : NodePhase) : (s.withPhase p).peers = s.peers := rfl
@[simp] theorem State.withPhase_clock (s : State) (p : NodePhase) : (s.withPhase p).clock = s.clock := rfl
@[simp] theorem State.withPhase_sessions (s : State) (p : NodePhase) : (s.withPhase p).sessions = s.sessions := rfl
@[simp] theorem State.withPhase_evidence (s : State) (p : NodePhase) : (s.withPhase p).evidence = s.evidence := rfl
@[simp] theorem State.withPhase_room (s : State) (p : NodePhase) : (s.withPhase p).room = s.room := rfl
@[simp] theorem State.withPhase_air (s : State) (p : NodePhase) : (s.withPhase p).air = s.air := rfl
@[simp] theorem State.withPhase_light (s : State) (p : NodePhase) : (s.withPhase p).light = s.light := rfl
@[simp] theorem State.withPhase_shade (s : State) (p : NodePhase) : (s.withPhase p).shade = s.shade := rfl
@[simp] theorem State.withPhase_drive (s : State) (p : NodePhase) : (s.withPhase p).drive = s.drive := rfl
@[simp] theorem State.withPhase_pair (s : State) (p : NodePhase) : (s.withPhase p).pair = s.pair := rfl
@[simp] theorem State.withPhase_overrides (s : State) (p : NodePhase) : (s.withPhase p).overrides = s.overrides := rfl
@[simp] theorem State.withPhase_draws (s : State) (p : NodePhase) : (s.withPhase p).draws = s.draws := rfl
@[simp] theorem State.withPhase_line (s : State) (p : NodePhase) : (s.withPhase p).line = s.line := rfl
@[simp] theorem State.withPhase_pending (s : State) (p : NodePhase) : (s.withPhase p).pending = s.pending := rfl
@[simp] theorem State.withPhase_cfg (s : State) (p : NodePhase) : (s.withPhase p).cfg = s.cfg := rfl

/-! ### countDraw -/

@[simp] theorem State.countDraw_now (s : State) : (s.countDraw).now = s.now := rfl
@[simp] theorem State.countDraw_phase (s : State) : (s.countDraw).phase = s.phase := rfl
@[simp] theorem State.countDraw_loader (s : State) : (s.countDraw).loader = s.loader := rfl
@[simp] theorem State.countDraw_pins (s : State) : (s.countDraw).pins = s.pins := rfl
@[simp] theorem State.countDraw_out (s : State) : (s.countDraw).out = s.out := rfl
@[simp] theorem State.countDraw_link (s : State) : (s.countDraw).link = s.link := rfl
@[simp] theorem State.countDraw_peers (s : State) : (s.countDraw).peers = s.peers := rfl
@[simp] theorem State.countDraw_clock (s : State) : (s.countDraw).clock = s.clock := rfl
@[simp] theorem State.countDraw_sessions (s : State) : (s.countDraw).sessions = s.sessions := rfl
@[simp] theorem State.countDraw_evidence (s : State) : (s.countDraw).evidence = s.evidence := rfl
@[simp] theorem State.countDraw_room (s : State) : (s.countDraw).room = s.room := rfl
@[simp] theorem State.countDraw_air (s : State) : (s.countDraw).air = s.air := rfl
@[simp] theorem State.countDraw_light (s : State) : (s.countDraw).light = s.light := rfl
@[simp] theorem State.countDraw_shade (s : State) : (s.countDraw).shade = s.shade := rfl
@[simp] theorem State.countDraw_drive (s : State) : (s.countDraw).drive = s.drive := rfl
@[simp] theorem State.countDraw_pair (s : State) : (s.countDraw).pair = s.pair := rfl
@[simp] theorem State.countDraw_overrides (s : State) : (s.countDraw).overrides = s.overrides := rfl
@[simp] theorem State.countDraw_draws (s : State) : (s.countDraw).draws = s.draws + 1 := rfl
@[simp] theorem State.countDraw_pending (s : State) : (s.countDraw).pending = s.pending := rfl
@[simp] theorem State.countDraw_cfg (s : State) : (s.countDraw).cfg = s.cfg := rfl

/-! ### advanceTo -/

@[simp] theorem State.advanceTo_now (s : State) (due : Nat) : (s.advanceTo due).now = max s.now due := rfl
@[simp] theorem State.advanceTo_phase (s : State) (due : Nat) : (s.advanceTo due).phase = s.phase := rfl
@[simp] theorem State.advanceTo_loader (s : State) (due : Nat) : (s.advanceTo due).loader = s.loader := rfl
@[simp] theorem State.advanceTo_pins (s : State) (due : Nat) : (s.advanceTo due).pins = s.pins := rfl
@[simp] theorem State.advanceTo_out (s : State) (due : Nat) : (s.advanceTo due).out = s.out := rfl
@[simp] theorem State.advanceTo_link (s : State) (due : Nat) : (s.advanceTo due).link = s.link := rfl
@[simp] theorem State.advanceTo_peers (s : State) (due : Nat) : (s.advanceTo due).peers = s.peers := rfl
@[simp] theorem State.advanceTo_clock (s : State) (due : Nat) : (s.advanceTo due).clock = s.clock := rfl
@[simp] theorem State.advanceTo_sessions (s : State) (due : Nat) : (s.advanceTo due).sessions = s.sessions := rfl
@[simp] theorem State.advanceTo_evidence (s : State) (due : Nat) : (s.advanceTo due).evidence = s.evidence := rfl
@[simp] theorem State.advanceTo_room (s : State) (due : Nat) : (s.advanceTo due).room = s.room := rfl
@[simp] theorem State.advanceTo_air (s : State) (due : Nat) : (s.advanceTo due).air = s.air := rfl
@[simp] theorem State.advanceTo_light (s : State) (due : Nat) : (s.advanceTo due).light = s.light := rfl
@[simp] theorem State.advanceTo_shade (s : State) (due : Nat) : (s.advanceTo due).shade = s.shade := rfl
@[simp] theorem State.advanceTo_drive (s : State) (due : Nat) : (s.advanceTo due).drive = s.drive := rfl
@[simp] theorem State.advanceTo_pair (s : State) (due : Nat) : (s.advanceTo due).pair = s.pair := rfl
@[simp] theorem State.advanceTo_overrides (s : State) (due : Nat) : (s.advanceTo due).overrides = s.overrides := rfl
@[simp] theorem State.advanceTo_draws (s : State) (due : Nat) : (s.advanceTo due).draws = s.draws := rfl
@[simp] theorem State.advanceTo_line (s : State) (due : Nat) : (s.advanceTo due).line = s.line := rfl
@[simp] theorem State.advanceTo_pending (s : State) (due : Nat) : (s.advanceTo due).pending = s.pending := rfl
@[simp] theorem State.advanceTo_cfg (s : State) (due : Nat) : (s.advanceTo due).cfg = s.cfg := rfl

/-! ### tick -/

@[simp] theorem State.tick_now (s : State) : (s.tick).now = s.now + 1 := rfl
@[simp] theorem State.tick_phase (s : State) : (s.tick).phase = s.phase := rfl
@[simp] theorem State.tick_loader (s : State) : (s.tick).loader = s.loader := rfl
@[simp] theorem State.tick_pins (s : State) : (s.tick).pins = s.pins := rfl
@[simp] theorem State.tick_out (s : State) : (s.tick).out = s.out := rfl
@[simp] theorem State.tick_link (s : State) : (s.tick).link = s.link := rfl
@[simp] theorem State.tick_peers (s : State) : (s.tick).peers = s.peers := rfl
@[simp] theorem State.tick_clock (s : State) : (s.tick).clock = s.clock := rfl
@[simp] theorem State.tick_sessions (s : State) : (s.tick).sessions = s.sessions := rfl
@[simp] theorem State.tick_evidence (s : State) : (s.tick).evidence = s.evidence := rfl
@[simp] theorem State.tick_room (s : State) : (s.tick).room = s.room := rfl
@[simp] theorem State.tick_air (s : State) : (s.tick).air = s.air := rfl
@[simp] theorem State.tick_light (s : State) : (s.tick).light = s.light := rfl
@[simp] theorem State.tick_shade (s : State) : (s.tick).shade = s.shade := rfl
@[simp] theorem State.tick_drive (s : State) : (s.tick).drive = s.drive := rfl
@[simp] theorem State.tick_pair (s : State) : (s.tick).pair = s.pair := rfl
@[simp] theorem State.tick_overrides (s : State) : (s.tick).overrides = s.overrides := rfl
@[simp] theorem State.tick_draws (s : State) : (s.tick).draws = s.draws := rfl
@[simp] theorem State.tick_line (s : State) : (s.tick).line = s.line := rfl
@[simp] theorem State.tick_pending (s : State) : (s.tick).pending = s.pending := rfl
@[simp] theorem State.tick_cfg (s : State) : (s.tick).cfg = s.cfg := rfl

/-! ### The family views -/

/-- A value read where it was put. -/
@[simp] theorem PerBank.get_set_same {α : Type} (v : PerBank α) (i : Bank) (x : α) : (v.set i x).get i = x := by
  cases i <;> rfl

/-- A value read elsewhere is the one that was there. -/
theorem PerBank.get_set_other {α : Type} (v : PerBank α) {i j : Bank} (x : α) (h : j ≠ i) : (v.set i x).get j = v.get j := by
  cases i <;> cases j <;> first | rfl | exact absurd rfl h

/-- A value read where it was put. -/
@[simp] theorem PerBeam.get_set_same {α : Type} (v : PerBeam α) (i : Beam) (x : α) : (v.set i x).get i = x := by
  cases i <;> rfl

/-- A value read elsewhere is the one that was there. -/
theorem PerBeam.get_set_other {α : Type} (v : PerBeam α) {i j : Beam} (x : α) (h : j ≠ i) : (v.set i x).get j = v.get j := by
  cases i <;> cases j <;> first | rfl | exact absurd rfl h

/-- A value read where it was put. -/
@[simp] theorem PerQuantity.get_set_same {α : Type} (v : PerQuantity α) (i : Quantity) (x : α) : (v.set i x).get i = x := by
  cases i <;> rfl

/-- A value read elsewhere is the one that was there. -/
theorem PerQuantity.get_set_other {α : Type} (v : PerQuantity α) {i j : Quantity} (x : α) (h : j ≠ i) : (v.set i x).get j = v.get j := by
  cases i <;> cases j <;> first | rfl | exact absurd rfl h

/-- A value read where it was put. -/
@[simp] theorem PerEvent.get_set_same {α : Type} (v : PerEvent α) (i : EventKind) (x : α) : (v.set i x).get i = x := by
  cases i <;> rfl

/-- A value read elsewhere is the one that was there. -/
theorem PerEvent.get_set_other {α : Type} (v : PerEvent α) {i j : EventKind} (x : α) (h : j ≠ i) :
    (v.set i x).get j = v.get j := by
  cases i <;> cases j <;> first | rfl | exact absurd rfl h

end Sys2Proof.Machine
end

