-- ==== Sys2Proof/Laws/Changes.lean ====
section
/-! SUPPORT. Which parts of the state each shared operation can change: one lemma an operation, cited instead of unfolding it.
The projections at the start read one field off. An operation's lemma reads: where `s` is `s₀` but for `ps`, and `ps` holds the
parts the operation can change, so is what it answers on `s`; with `Changes.refl` for the first of these it says what the
operation alone can change. -/

namespace Sys2Proof.Machine

/-- Every part of one list is in another. -/
def covers (ps qs : List Part) : Bool := qs.all fun p => ps.contains p

/-- What reaches the readers of a change: the air, the lights, the blinds, the override records they drop, and what is reported. -/
abbrev Part.readers : List Part :=
  [.dims, .damper, .motor, .queue, .latches, .airRecord, .grant, .light, .held, .drive, .handed, .overrideRecords]

/-- What one handling of the Room State Machine can change besides its own core: the readers, the occupancy state, and a vacancy
declared at the end of suppression. -/
abbrev Part.handling : List Part :=
  [.headcount, .history, .occupancy, .switchMarker, .pairData] ++ Part.readers

/-- Everything the blocks hold. -/
abbrev Part.blocks : List Part :=
  [.receiver, .attempt, .pauses, .queue, .latches, .linkTimers, .peers, .clock, .records, .transfer, .door, .headcount, .history,
    .samples, .occupancy, .switchMarker, .airRecord, .capacity, .grant, .published, .light, .glare, .held, .drive,
    .pairState, .partition, .offers, .pairTimers, .pairData, .mirror, .handed, .overrideRecords, .modes, .hold,
    .indicator]

theorem Changes.refl (ps : List Part) (s : State) : Changes ps s s := by
  intro p _; cases p <;> first | rfl | (constructor <;> rfl) | (refine ⟨rfl, rfl, ?_⟩; first | rfl | (constructor <;> rfl)) | simp [State.agrees]

theorem Changes.trans {ps : List Part} {s t u : State} (h : Changes ps s t) (k : Changes ps t u) : Changes ps s u := by
  intro p hp
  have a := h p hp
  have b := k p hp
  cases p <;> simp only [State.agrees] at a b ⊢ <;> simp only [a, b, and_self]

theorem Changes.mono {ps qs : List Part} {s t : State} (h : Changes qs s t) (hc : covers ps qs = true := by decide) :
    Changes ps s t := by
  intro p hp
  refine h p fun hq => hp ?_
  have := List.all_eq_true.mp hc p hq
  simpa using this

/-- One operation more. -/
theorem Changes.then {ps qs : List Part} {s t u : State} (h : Changes ps s t) (k : Changes qs t u)
    (hc : covers ps qs = true := by decide) : Changes ps s u := h.trans (k.mono hc)

/-- A choice between two ends. -/
theorem Changes.ite {ps : List Part} {s t u : State} {c : Prop} [Decidable c] (h : Changes ps s t) (k : Changes ps s u) :
    Changes ps s (if c then t else u) := by
  split
  · exact h
  · exact k

/-- A fold of an operation. -/
theorem Changes.foldl {α : Type} {ps : List Part} {f : State → α → State} (hf : ∀ s a, Changes ps s (f s a)) :
    ∀ (l : List α) {s t : State}, Changes ps s t → Changes ps s (l.foldl f t)
  | [], _, _, h => h
  | a :: l, _, _, h => Changes.foldl hf l (h.trans (hf _ a))

/-! ### Reading a field off -/

theorem Changes.now {ps : List Part} {s t : State} (h : Changes ps s t) (hp : .now ∉ ps := by decide) : t.now = s.now
    :=
  h .now hp

theorem Changes.phase {ps : List Part} {s t : State} (h : Changes ps s t) (hp : .phase ∉ ps := by decide) : t.phase =
    s.phase :=
  h .phase hp

theorem Changes.loader {ps : List Part} {s t : State} (h : Changes ps s t) (hp : .loader ∉ ps := by decide) : t.loader
    = s.loader :=
  h .loader hp

theorem Changes.pins {ps : List Part} {s t : State} (h : Changes ps s t) (hp : .pins ∉ ps := by decide) : t.pins =
    s.pins :=
  h .pins hp

theorem Changes.out_dim1 {ps : List Part} {s t : State} (h : Changes ps s t) (hp : .dims ∉ ps := by decide) :
    t.out.dim1 = s.out.dim1 :=
  (h .dims hp).1

theorem Changes.out_dim2 {ps : List Part} {s t : State} (h : Changes ps s t) (hp : .dims ∉ ps := by decide) :
    t.out.dim2 = s.out.dim2 :=
  (h .dims hp).2

theorem Changes.out_dmp {ps : List Part} {s t : State} (h : Changes ps s t) (hp : .damper ∉ ps := by decide) :
    t.out.dmp = s.out.dmp :=
  h .damper hp

theorem Changes.out_motorUp {ps : List Part} {s t : State} (h : Changes ps s t) (hp : .motor ∉ ps := by decide) :
    t.out.motorUp = s.out.motorUp :=
  (h .motor hp).1

theorem Changes.out_motorDown {ps : List Part} {s t : State} (h : Changes ps s t) (hp : .motor ∉ ps := by decide) :
    t.out.motorDown = s.out.motorDown :=
  (h .motor hp).2.1

theorem Changes.out_selected {ps : List Part} {s t : State} (h : Changes ps s t) (hp : .motor ∉ ps := by decide) :
    t.out.selected = s.out.selected :=
  (h .motor hp).2.2

theorem Changes.link_receiver {ps : List Part} {s t : State} (h : Changes ps s t) (hp : .receiver ∉ ps := by decide) :
    t.link.receiver = s.link.receiver :=
  h .receiver hp

theorem Changes.link_attempt {ps : List Part} {s t : State} (h : Changes ps s t) (hp : .attempt ∉ ps := by decide) :
    t.link.attempt = s.link.attempt :=
  h .attempt hp

theorem Changes.link_backoff {ps : List Part} {s t : State} (h : Changes ps s t) (hp : .pauses ∉ ps := by decide) :
    t.link.backoff = s.link.backoff :=
  (h .pauses hp).1

theorem Changes.link_longPause {ps : List Part} {s t : State} (h : Changes ps s t) (hp : .pauses ∉ ps := by decide) :
    t.link.longPause = s.link.longPause :=
  (h .pauses hp).2

theorem Changes.link_queue {ps : List Part} {s t : State} (h : Changes ps s t) (hp : .queue ∉ ps := by decide) :
    t.link.queue = s.link.queue :=
  h .queue hp

theorem Changes.link_latches {ps : List Part} {s t : State} (h : Changes ps s t) (hp : .latches ∉ ps := by decide) :
    t.link.latches = s.link.latches :=
  h .latches hp

theorem Changes.link_statusDue {ps : List Part} {s t : State} (h : Changes ps s t) (hp : .linkTimers ∉ ps := by
    decide) : t.link.statusDue = s.link.statusDue :=
  (h .linkTimers hp).1

theorem Changes.link_runningSince {ps : List Part} {s t : State} (h : Changes ps s t) (hp : .linkTimers ∉ ps := by
    decide) : t.link.runningSince = s.link.runningSince :=
  (h .linkTimers hp).2

theorem Changes.peers {ps : List Part} {s t : State} (h : Changes ps s t) (hp : .peers ∉ ps := by decide) : t.peers =
    s.peers :=
  h .peers hp

theorem Changes.clock {ps : List Part} {s t : State} (h : Changes ps s t) (hp : .clock ∉ ps := by decide) : t.clock =
    s.clock :=
  h .clock hp

theorem Changes.sessions_records {ps : List Part} {s t : State} (h : Changes ps s t) (hp : .records ∉ ps := by decide)
    : t.sessions.records = s.sessions.records :=
  h .records hp

theorem Changes.sessions_transfer {ps : List Part} {s t : State} (h : Changes ps s t) (hp : .transfer ∉ ps := by
    decide) : t.sessions.transfer = s.sessions.transfer :=
  h .transfer hp

theorem Changes.evidence_window {ps : List Part} {s t : State} (h : Changes ps s t) (hp : .door ∉ ps := by decide) :
    t.evidence.window = s.evidence.window :=
  (h .door hp).1

theorem Changes.evidence_stuckDue {ps : List Part} {s t : State} (h : Changes ps s t) (hp : .door ∉ ps := by decide) :
    t.evidence.stuckDue = s.evidence.stuckDue :=
  (h .door hp).2.1

theorem Changes.evidence_stuckMark {ps : List Part} {s t : State} (h : Changes ps s t) (hp : .door ∉ ps := by decide)
    : t.evidence.stuckMark = s.evidence.stuckMark :=
  (h .door hp).2.2

theorem Changes.evidence_headcount {ps : List Part} {s t : State} (h : Changes ps s t) (hp : .headcount ∉ ps := by
    decide) : t.evidence.headcount = s.evidence.headcount :=
  h .headcount hp

theorem Changes.evidence_lastEvidence {ps : List Part} {s t : State} (h : Changes ps s t) (hp : .history ∉ ps := by
    decide) : t.evidence.lastEvidence = s.evidence.lastEvidence :=
  (h .history hp).1

theorem Changes.evidence_holdPassed {ps : List Part} {s t : State} (h : Changes ps s t) (hp : .history ∉ ps := by
    decide) : t.evidence.holdPassed = s.evidence.holdPassed :=
  (h .history hp).2.1

theorem Changes.evidence_triplePassed {ps : List Part} {s t : State} (h : Changes ps s t) (hp : .history ∉ ps := by
    decide) : t.evidence.triplePassed = s.evidence.triplePassed :=
  (h .history hp).2.2.1

theorem Changes.evidence_confirmMark {ps : List Part} {s t : State} (h : Changes ps s t) (hp : .history ∉ ps := by
    decide) : t.evidence.confirmMark = s.evidence.confirmMark :=
  (h .history hp).2.2.2

theorem Changes.evidence_co2 {ps : List Part} {s t : State} (h : Changes ps s t) (hp : .samples ∉ ps := by decide) :
    t.evidence.co2 = s.evidence.co2 :=
  (h .samples hp).1

theorem Changes.evidence_co2Fault {ps : List Part} {s t : State} (h : Changes ps s t) (hp : .samples ∉ ps := by
    decide) : t.evidence.co2Fault = s.evidence.co2Fault :=
  (h .samples hp).2.1

theorem Changes.evidence_co2Due {ps : List Part} {s t : State} (h : Changes ps s t) (hp : .samples ∉ ps := by decide)
    : t.evidence.co2Due = s.evidence.co2Due :=
  (h .samples hp).2.2.1

theorem Changes.evidence_photo {ps : List Part} {s t : State} (h : Changes ps s t) (hp : .samples ∉ ps := by decide) :
    t.evidence.photo = s.evidence.photo :=
  (h .samples hp).2.2.2.1

theorem Changes.evidence_irrad {ps : List Part} {s t : State} (h : Changes ps s t) (hp : .samples ∉ ps := by decide) :
    t.evidence.irrad = s.evidence.irrad :=
  (h .samples hp).2.2.2.2

theorem Changes.room_occupancy {ps : List Part} {s t : State} (h : Changes ps s t) (hp : .occupancy ∉ ps := by decide)
    : t.room.occupancy = s.room.occupancy :=
  (h .occupancy hp).1

theorem Changes.room_current {ps : List Part} {s t : State} (h : Changes ps s t) (hp : .occupancy ∉ ps := by decide) :
    t.room.current = s.room.current :=
  (h .occupancy hp).2.1

theorem Changes.room_mirroredId {ps : List Part} {s t : State} (h : Changes ps s t) (hp : .occupancy ∉ ps := by
    decide) : t.room.mirroredId = s.room.mirroredId :=
  (h .occupancy hp).2.2.1

theorem Changes.room_overrunScene {ps : List Part} {s t : State} (h : Changes ps s t) (hp : .occupancy ∉ ps := by
    decide) : t.room.overrunScene = s.room.overrunScene :=
  (h .occupancy hp).2.2.2.1

theorem Changes.room_overrunDue {ps : List Part} {s t : State} (h : Changes ps s t) (hp : .occupancy ∉ ps := by
    decide) : t.room.overrunDue = s.room.overrunDue :=
  (h .occupancy hp).2.2.2.2

theorem Changes.room_switchMarker {ps : List Part} {s t : State} (h : Changes ps s t) (hp : .switchMarker ∉ ps := by
    decide) : t.room.switchMarker = s.room.switchMarker :=
  h .switchMarker hp

theorem Changes.air_demand {ps : List Part} {s t : State} (h : Changes ps s t) (hp : .airRecord ∉ ps := by decide) :
    t.air.demand = s.air.demand :=
  (h .airRecord hp).1

theorem Changes.air_floor {ps : List Part} {s t : State} (h : Changes ps s t) (hp : .airRecord ∉ ps := by decide) :
    t.air.floor = s.air.floor :=
  (h .airRecord hp).2.1

theorem Changes.air_airClass {ps : List Part} {s t : State} (h : Changes ps s t) (hp : .airRecord ∉ ps := by decide) :
    t.air.airClass = s.air.airClass :=
  (h .airRecord hp).2.2

theorem Changes.air_capacityKnown {ps : List Part} {s t : State} (h : Changes ps s t) (hp : .capacity ∉ ps := by
    decide) : t.air.capacityKnown = s.air.capacityKnown :=
  (h .capacity hp).1

theorem Changes.air_capacity {ps : List Part} {s t : State} (h : Changes ps s t) (hp : .capacity ∉ ps := by decide) :
    t.air.capacity = s.air.capacity :=
  (h .capacity hp).2.1

theorem Changes.air_supplyRunning {ps : List Part} {s t : State} (h : Changes ps s t) (hp : .capacity ∉ ps := by
    decide) : t.air.supplyRunning = s.air.supplyRunning :=
  (h .capacity hp).2.2.1

theorem Changes.air_capacityDue {ps : List Part} {s t : State} (h : Changes ps s t) (hp : .capacity ∉ ps := by decide)
    : t.air.capacityDue = s.air.capacityDue :=
  (h .capacity hp).2.2.2

theorem Changes.air_grant {ps : List Part} {s t : State} (h : Changes ps s t) (hp : .grant ∉ ps := by decide) :
    t.air.grant = s.air.grant :=
  (h .grant hp).1

theorem Changes.air_pinch {ps : List Part} {s t : State} (h : Changes ps s t) (hp : .grant ∉ ps := by decide) :
    t.air.pinch = s.air.pinch :=
  (h .grant hp).2.1

theorem Changes.air_episode {ps : List Part} {s t : State} (h : Changes ps s t) (hp : .grant ∉ ps := by decide) :
    t.air.episode = s.air.episode :=
  (h .grant hp).2.2.1

theorem Changes.air_pinchTimer {ps : List Part} {s t : State} (h : Changes ps s t) (hp : .grant ∉ ps := by decide) :
    t.air.pinchTimer = s.air.pinchTimer :=
  (h .grant hp).2.2.2.1

theorem Changes.air_view {ps : List Part} {s t : State} (h : Changes ps s t) (hp : .grant ∉ ps := by decide) :
    t.air.view = s.air.view :=
  (h .grant hp).2.2.2.2

theorem Changes.air_lastPublished {ps : List Part} {s t : State} (h : Changes ps s t) (hp : .published ∉ ps := by
    decide) : t.air.lastPublished = s.air.lastPublished :=
  (h .published hp).1

theorem Changes.air_demandDue {ps : List Part} {s t : State} (h : Changes ps s t) (hp : .published ∉ ps := by decide)
    : t.air.demandDue = s.air.demandDue :=
  (h .published hp).2

theorem Changes.light {ps : List Part} {s t : State} (h : Changes ps s t) (hp : .light ∉ ps := by decide) : t.light =
    s.light :=
  h .light hp

theorem Changes.shade_glare {ps : List Part} {s t : State} (h : Changes ps s t) (hp : .glare ∉ ps := by decide) :
    t.shade.glare = s.shade.glare :=
  (h .glare hp).1

theorem Changes.shade_dwellDue {ps : List Part} {s t : State} (h : Changes ps s t) (hp : .glare ∉ ps := by decide) :
    t.shade.dwellDue = s.shade.dwellDue :=
  (h .glare hp).2

theorem Changes.shade_held {ps : List Part} {s t : State} (h : Changes ps s t) (hp : .held ∉ ps := by decide) :
    t.shade.held = s.shade.held :=
  h .held hp

theorem Changes.drive {ps : List Part} {s t : State} (h : Changes ps s t) (hp : .drive ∉ ps := by decide) : t.drive =
    s.drive :=
  h .drive hp

theorem Changes.pair_state {ps : List Part} {s t : State} (h : Changes ps s t) (hp : .pairState ∉ ps := by decide) :
    t.pair.state = s.pair.state :=
  (h .pairState hp).1

theorem Changes.pair_readsOpen {ps : List Part} {s t : State} (h : Changes ps s t) (hp : .pairState ∉ ps := by decide)
    : t.pair.readsOpen = s.pair.readsOpen :=
  (h .pairState hp).2

theorem Changes.pair_debounceDue {ps : List Part} {s t : State} (h : Changes ps s t) (hp : .partition ∉ ps := by
    decide) : t.pair.debounceDue = s.pair.debounceDue :=
  h .partition hp

theorem Changes.pair_offerDue {ps : List Part} {s t : State} (h : Changes ps s t) (hp : .offers ∉ ps := by decide) :
    t.pair.offerDue = s.pair.offerDue :=
  (h .offers hp).1

theorem Changes.pair_offerCount {ps : List Part} {s t : State} (h : Changes ps s t) (hp : .offers ∉ ps := by decide) :
    t.pair.offerCount = s.pair.offerCount :=
  (h .offers hp).2

theorem Changes.pair_livenessDue {ps : List Part} {s t : State} (h : Changes ps s t) (hp : .pairTimers ∉ ps := by
    decide) : t.pair.livenessDue = s.pair.livenessDue :=
  (h .pairTimers hp).1

theorem Changes.pair_periodDue {ps : List Part} {s t : State} (h : Changes ps s t) (hp : .pairTimers ∉ ps := by
    decide) : t.pair.periodDue = s.pair.periodDue :=
  (h .pairTimers hp).2

theorem Changes.pair_followerCount {ps : List Part} {s t : State} (h : Changes ps s t) (hp : .pairData ∉ ps := by
    decide) : t.pair.followerCount = s.pair.followerCount :=
  (h .pairData hp).1

theorem Changes.pair_combined {ps : List Part} {s t : State} (h : Changes ps s t) (hp : .pairData ∉ ps := by decide) :
    t.pair.combined = s.pair.combined :=
  (h .pairData hp).2.1

theorem Changes.pair_evidenceFlag {ps : List Part} {s t : State} (h : Changes ps s t) (hp : .pairData ∉ ps := by
    decide) : t.pair.evidenceFlag = s.pair.evidenceFlag :=
  (h .pairData hp).2.2.1

theorem Changes.pair_forwarded {ps : List Part} {s t : State} (h : Changes ps s t) (hp : .pairData ∉ ps := by decide)
    : t.pair.forwarded = s.pair.forwarded :=
  (h .pairData hp).2.2.2.1

theorem Changes.pair_sequence {ps : List Part} {s t : State} (h : Changes ps s t) (hp : .pairData ∉ ps := by decide) :
    t.pair.sequence = s.pair.sequence :=
  (h .pairData hp).2.2.2.2.1

theorem Changes.pair_lastSequence {ps : List Part} {s t : State} (h : Changes ps s t) (hp : .pairData ∉ ps := by
    decide) : t.pair.lastSequence = s.pair.lastSequence :=
  (h .pairData hp).2.2.2.2.2

theorem Changes.pair_mirror {ps : List Part} {s t : State} (h : Changes ps s t) (hp : .mirror ∉ ps := by decide) :
    t.pair.mirror = s.pair.mirror :=
  h .mirror hp

theorem Changes.pair_handed {ps : List Part} {s t : State} (h : Changes ps s t) (hp : .handed ∉ ps := by decide) :
    t.pair.handed = s.pair.handed :=
  h .handed hp

theorem Changes.overrides_records {ps : List Part} {s t : State} (h : Changes ps s t) (hp : .overrideRecords ∉ ps :=
    by decide) : t.overrides.records = s.overrides.records :=
  h .overrideRecords hp

theorem Changes.overrides_frameMode {ps : List Part} {s t : State} (h : Changes ps s t) (hp : .modes ∉ ps := by
    decide) : t.overrides.frameMode = s.overrides.frameMode :=
  (h .modes hp).1

theorem Changes.overrides_lifeSafety {ps : List Part} {s t : State} (h : Changes ps s t) (hp : .modes ∉ ps := by
    decide) : t.overrides.lifeSafety = s.overrides.lifeSafety :=
  (h .modes hp).2

theorem Changes.overrides_hold {ps : List Part} {s t : State} (h : Changes ps s t) (hp : .hold ∉ ps := by decide) :
    t.overrides.hold = s.overrides.hold :=
  h .hold hp

theorem Changes.overrides_sending {ps : List Part} {s t : State} (h : Changes ps s t) (hp : .indicator ∉ ps := by
    decide) : t.overrides.sending = s.overrides.sending :=
  (h .indicator hp).1

theorem Changes.overrides_indicatorWaiting {ps : List Part} {s t : State} (h : Changes ps s t) (hp : .indicator ∉ ps
    := by decide) : t.overrides.indicatorWaiting = s.overrides.indicatorWaiting :=
  (h .indicator hp).2

theorem Changes.draws {ps : List Part} {s t : State} (h : Changes ps s t) (hp : .draws ∉ ps := by decide) : t.draws =
    s.draws :=
  h .draws hp

theorem Changes.line {ps : List Part} {s t : State} (h : Changes ps s t) (hp : .line ∉ ps := by decide) : t.line =
    s.line :=
  h .line hp

theorem Changes.pending {ps : List Part} {s t : State} (h : Changes ps s t) (hp : .pending ∉ ps := by decide) :
    t.pending = s.pending :=
  h .pending hp

theorem Changes.out {ps : List Part} {s t : State} (h : Changes ps s t) (h0 : .dims ∉ ps := by decide) (h1 : .damper ∉
    ps := by decide) (h2 : .motor ∉ ps := by decide) : t.out = s.out := by
  have e : ∀ x y : Outputs, x.dim1 = y.dim1 → x.dim2 = y.dim2 → x.dmp = y.dmp → x.motorUp = y.motorUp → x.motorDown =
      y.motorDown → x.selected = y.selected → x = y := by
    intro x y; cases x; cases y; simp only; intros; subst_vars; rfl
  exact e _ _ (h.out_dim1 h0) (h.out_dim2 h0) (h.out_dmp h1) (h.out_motorUp h2) (h.out_motorDown h2) (h.out_selected h2)

theorem Changes.link {ps : List Part} {s t : State} (h : Changes ps s t) (h0 : .attempt ∉ ps := by decide) (h1 :
    .pauses ∉ ps := by decide) (h2 : .queue ∉ ps := by decide) (h3 : .latches ∉ ps := by decide) (h4 : .linkTimers ∉
    ps := by decide) (h5 : .receiver ∉ ps := by decide) : t.link = s.link := by
  have e : ∀ x y : Link, x.receiver = y.receiver → x.attempt = y.attempt → x.backoff = y.backoff → x.longPause =
      y.longPause → x.queue = y.queue → x.latches = y.latches → x.statusDue = y.statusDue → x.runningSince =
      y.runningSince → x = y := by
    intro x y; cases x; cases y; simp only; intros; subst_vars; rfl
  exact e _ _ (h.link_receiver h5) (h.link_attempt h0) (h.link_backoff h1) (h.link_longPause h1) (h.link_queue h2) (h.link_latches h3)
      (h.link_statusDue h4) (h.link_runningSince h4)

theorem Changes.sessions {ps : List Part} {s t : State} (h : Changes ps s t) (h0 : .records ∉ ps := by decide) (h1 :
    .transfer ∉ ps := by decide) : t.sessions = s.sessions := by
  have e : ∀ x y : Sessions, x.records = y.records → x.transfer = y.transfer → x = y := by
    intro x y; cases x; cases y; simp only; intros; subst_vars; rfl
  exact e _ _ (h.sessions_records h0) (h.sessions_transfer h1)

theorem Changes.evidence {ps : List Part} {s t : State} (h : Changes ps s t) (h0 : .door ∉ ps := by decide) (h1 :
    .headcount ∉ ps := by decide) (h2 : .history ∉ ps := by decide) (h3 : .samples ∉ ps := by decide) : t.evidence =
    s.evidence := by
  have e : ∀ x y : Evidence, x.window = y.window → x.stuckDue = y.stuckDue → x.stuckMark = y.stuckMark → x.headcount =
      y.headcount → x.lastEvidence = y.lastEvidence → x.holdPassed = y.holdPassed → x.triplePassed = y.triplePassed →
      x.confirmMark = y.confirmMark → x.co2 = y.co2 → x.co2Fault = y.co2Fault → x.co2Due = y.co2Due → x.photo =
      y.photo → x.irrad = y.irrad → x = y := by
    intro x y; cases x; cases y; simp only; intros; subst_vars; rfl
  exact e _ _ (h.evidence_window h0) (h.evidence_stuckDue h0) (h.evidence_stuckMark h0) (h.evidence_headcount h1)
      (h.evidence_lastEvidence h2) (h.evidence_holdPassed h2) (h.evidence_triplePassed h2) (h.evidence_confirmMark h2)
      (h.evidence_co2 h3) (h.evidence_co2Fault h3) (h.evidence_co2Due h3) (h.evidence_photo h3) (h.evidence_irrad h3)

theorem Changes.room {ps : List Part} {s t : State} (h : Changes ps s t) (h0 : .occupancy ∉ ps := by decide) (h1 :
    .switchMarker ∉ ps := by decide) : t.room = s.room := by
  have e : ∀ x y : Room, x.occupancy = y.occupancy → x.current = y.current → x.mirroredId = y.mirroredId →
      x.overrunScene = y.overrunScene → x.overrunDue = y.overrunDue → x.switchMarker = y.switchMarker → x = y := by
    intro x y; cases x; cases y; simp only; intros; subst_vars; rfl
  exact e _ _ (h.room_occupancy h0) (h.room_current h0) (h.room_mirroredId h0) (h.room_overrunScene h0)
      (h.room_overrunDue h0) (h.room_switchMarker h1)

theorem Changes.air {ps : List Part} {s t : State} (h : Changes ps s t) (h0 : .airRecord ∉ ps := by decide) (h1 :
    .capacity ∉ ps := by decide) (h2 : .grant ∉ ps := by decide) (h3 : .published ∉ ps := by decide) : t.air = s.air
    := by
  have e : ∀ x y : Air, x.demand = y.demand → x.floor = y.floor → x.airClass = y.airClass → x.capacityKnown =
      y.capacityKnown → x.capacity = y.capacity → x.supplyRunning = y.supplyRunning → x.capacityDue = y.capacityDue →
      x.grant = y.grant → x.pinch = y.pinch → x.episode = y.episode → x.pinchTimer = y.pinchTimer → x.view = y.view →
      x.lastPublished = y.lastPublished → x.demandDue = y.demandDue → x = y := by
    intro x y; cases x; cases y; simp only; intros; subst_vars; rfl
  exact e _ _ (h.air_demand h0) (h.air_floor h0) (h.air_airClass h0) (h.air_capacityKnown h1) (h.air_capacity h1)
      (h.air_supplyRunning h1) (h.air_capacityDue h1) (h.air_grant h2) (h.air_pinch h2) (h.air_episode h2)
      (h.air_pinchTimer h2) (h.air_view h2) (h.air_lastPublished h3) (h.air_demandDue h3)

theorem Changes.shade {ps : List Part} {s t : State} (h : Changes ps s t) (h0 : .glare ∉ ps := by decide) (h1 : .held
    ∉ ps := by decide) : t.shade = s.shade := by
  have e : ∀ x y : Shade, x.glare = y.glare → x.dwellDue = y.dwellDue → x.held = y.held → x = y := by
    intro x y; cases x; cases y; simp only; intros; subst_vars; rfl
  exact e _ _ (h.shade_glare h0) (h.shade_dwellDue h0) (h.shade_held h1)

theorem Changes.pair {ps : List Part} {s t : State} (h : Changes ps s t) (h0 : .pairState ∉ ps := by decide) (h1 :
    .partition ∉ ps := by decide) (h2 : .offers ∉ ps := by decide) (h3 : .pairTimers ∉ ps := by decide) (h4 :
    .pairData ∉ ps := by decide) (h5 : .mirror ∉ ps := by decide) (h6 : .handed ∉ ps := by decide) : t.pair = s.pair
    := by
  have e : ∀ x y : Pair, x.state = y.state → x.readsOpen = y.readsOpen → x.debounceDue = y.debounceDue → x.offerDue =
      y.offerDue → x.offerCount = y.offerCount → x.livenessDue = y.livenessDue → x.periodDue = y.periodDue →
      x.followerCount = y.followerCount → x.combined = y.combined → x.evidenceFlag = y.evidenceFlag → x.forwarded =
      y.forwarded → x.sequence = y.sequence → x.lastSequence = y.lastSequence → x.mirror = y.mirror → x.handed =
      y.handed → x = y := by
    intro x y; cases x; cases y; simp only; intros; subst_vars; rfl
  exact e _ _ (h.pair_state h0) (h.pair_readsOpen h0) (h.pair_debounceDue h1) (h.pair_offerDue h2) (h.pair_offerCount
      h2) (h.pair_livenessDue h3) (h.pair_periodDue h3) (h.pair_followerCount h4) (h.pair_combined h4)
      (h.pair_evidenceFlag h4) (h.pair_forwarded h4) (h.pair_sequence h4) (h.pair_lastSequence h4) (h.pair_mirror h5)
      (h.pair_handed h6)

theorem Changes.overrides {ps : List Part} {s t : State} (h : Changes ps s t) (h0 : .overrideRecords ∉ ps := by
    decide) (h1 : .modes ∉ ps := by decide) (h2 : .hold ∉ ps := by decide) (h3 : .indicator ∉ ps := by decide) :
    t.overrides = s.overrides := by
  have e : ∀ x y : Overrides, x.records = y.records → x.frameMode = y.frameMode → x.lifeSafety = y.lifeSafety → x.hold =
      y.hold → x.sending = y.sending → x.indicatorWaiting = y.indicatorWaiting → x = y := by
    intro x y; cases x; cases y; simp only; intros; subst_vars; rfl
  exact e _ _ (h.overrides_records h0) (h.overrides_frameMode h1) (h.overrides_lifeSafety h1) (h.overrides_hold h2)
      (h.overrides_sending h3) (h.overrides_indicatorWaiting h3)

theorem Changes.cfg {ps : List Part} {s t : State} (h : Changes ps s t) (hp : .loader ∉ ps := by decide) : t.cfg = s.cfg :=
  congrArg Loader.record (h.loader hp)

/-! ### Changing one block

`keeps ps p` is met where `p` is listed; where it is not, the change must leave the part as it is. -/

theorem State.modLink_changes {ps : List Part} {s₀ s : State} (h : Changes ps s₀ s) (f : Link → Link) (h0 :
    ps.contains .attempt = true ∨ ∀ v, (f v).attempt = v.attempt) (h1 : ps.contains .pauses = true ∨ ∀ v, (f
    v).backoff = v.backoff ∧ (f v).longPause = v.longPause) (h2 : ps.contains .queue = true ∨ ∀ v, (f v).queue =
    v.queue) (h3 : ps.contains .latches = true ∨ ∀ v, (f v).latches = v.latches) (h4 : ps.contains .linkTimers = true
    ∨ ∀ v, (f v).statusDue = v.statusDue ∧ (f v).runningSince = v.runningSince) (h5 : ps.contains .receiver = true ∨ ∀
    v, (f v).receiver = v.receiver) : Changes ps s₀ (s.modLink f) := by
  refine h.trans fun p hp => ?_
  have hn : ¬ ps.contains p = true := by simpa using hp
  cases p <;> first
    | rfl
    | exact ⟨rfl, rfl⟩
    | simp [State.agrees, State.modLink]; done
    | exact (h0.resolve_left hn) _
    | exact (h1.resolve_left hn) _
    | exact (h2.resolve_left hn) _
    | exact (h3.resolve_left hn) _
    | exact (h4.resolve_left hn) _
    | exact (h5.resolve_left hn) _

theorem State.modClock_changes {ps : List Part} {s₀ s : State} (h : Changes ps s₀ s) (f : Clock → Clock) (hc :
    ps.contains .clock = true) : Changes ps s₀ (s.modClock f) := by
  refine h.trans fun p hp => ?_
  have hn : ¬ ps.contains p = true := by simpa using hp
  cases p <;> first
    | exact absurd hc hn
    | simp [State.agrees, State.modClock]

theorem State.modSessions_changes {ps : List Part} {s₀ s : State} (h : Changes ps s₀ s) (f : Sessions → Sessions) (h0
    : ps.contains .records = true ∨ ∀ v, (f v).records = v.records) (h1 : ps.contains .transfer = true ∨ ∀ v, (f
    v).transfer = v.transfer) : Changes ps s₀ (s.modSessions f) := by
  refine h.trans fun p hp => ?_
  have hn : ¬ ps.contains p = true := by simpa using hp
  cases p <;> first
    | rfl
    | exact ⟨rfl, rfl⟩
    | simp [State.agrees, State.modSessions]; done
    | exact (h0.resolve_left hn) _
    | exact (h1.resolve_left hn) _

theorem State.modEvidence_changes {ps : List Part} {s₀ s : State} (h : Changes ps s₀ s) (f : Evidence → Evidence) (h0
    : ps.contains .door = true ∨ ∀ v, (f v).window = v.window ∧ (f v).stuckDue = v.stuckDue ∧ (f v).stuckMark =
    v.stuckMark) (h1 : ps.contains .headcount = true ∨ ∀ v, (f v).headcount = v.headcount) (h2 : ps.contains .history
    = true ∨ ∀ v, (f v).lastEvidence = v.lastEvidence ∧ (f v).holdPassed = v.holdPassed ∧ (f v).triplePassed =
    v.triplePassed ∧ (f v).confirmMark = v.confirmMark) (h3 : ps.contains .samples = true ∨ ∀ v, (f v).co2 = v.co2 ∧
    (f v).co2Fault = v.co2Fault ∧ (f v).co2Due = v.co2Due ∧ (f v).photo = v.photo ∧ (f v).irrad = v.irrad) : Changes
    ps s₀ (s.modEvidence f) := by
  refine h.trans fun p hp => ?_
  have hn : ¬ ps.contains p = true := by simpa using hp
  cases p <;> first
    | rfl
    | exact ⟨rfl, rfl⟩
    | simp [State.agrees, State.modEvidence]; done
    | exact (h0.resolve_left hn) _
    | exact (h1.resolve_left hn) _
    | exact (h2.resolve_left hn) _
    | exact (h3.resolve_left hn) _

theorem State.modRoom_changes {ps : List Part} {s₀ s : State} (h : Changes ps s₀ s) (f : Room → Room) (h0 :
    ps.contains .occupancy = true ∨ ∀ v, (f v).occupancy = v.occupancy ∧ (f v).current = v.current ∧ (f v).mirroredId
    = v.mirroredId ∧ (f v).overrunScene = v.overrunScene ∧ (f v).overrunDue = v.overrunDue) (h1 : ps.contains
    .switchMarker = true ∨ ∀ v, (f v).switchMarker = v.switchMarker) : Changes ps s₀ (s.modRoom f) := by
  refine h.trans fun p hp => ?_
  have hn : ¬ ps.contains p = true := by simpa using hp
  cases p <;> first
    | rfl
    | exact ⟨rfl, rfl⟩
    | simp [State.agrees, State.modRoom]; done
    | exact (h0.resolve_left hn) _
    | exact (h1.resolve_left hn) _

theorem State.modAir_changes {ps : List Part} {s₀ s : State} (h : Changes ps s₀ s) (f : Air → Air) (h0 : ps.contains
    .airRecord = true ∨ ∀ v, (f v).demand = v.demand ∧ (f v).floor = v.floor ∧ (f v).airClass = v.airClass) (h1 :
    ps.contains .capacity = true ∨ ∀ v, (f v).capacityKnown = v.capacityKnown ∧ (f v).capacity = v.capacity ∧ (f
    v).supplyRunning = v.supplyRunning ∧ (f v).capacityDue = v.capacityDue) (h2 : ps.contains .grant = true ∨ ∀ v, (f
    v).grant = v.grant ∧ (f v).pinch = v.pinch ∧ (f v).episode = v.episode ∧ (f v).pinchTimer = v.pinchTimer ∧ (f
    v).view = v.view) (h3 : ps.contains .published = true ∨ ∀ v, (f v).lastPublished = v.lastPublished ∧ (f
    v).demandDue = v.demandDue) : Changes ps s₀ (s.modAir f) := by
  refine h.trans fun p hp => ?_
  have hn : ¬ ps.contains p = true := by simpa using hp
  cases p <;> first
    | rfl
    | exact ⟨rfl, rfl⟩
    | simp [State.agrees, State.modAir]; done
    | exact (h0.resolve_left hn) _
    | exact (h1.resolve_left hn) _
    | exact (h2.resolve_left hn) _
    | exact (h3.resolve_left hn) _

theorem State.modLight_changes {ps : List Part} {s₀ s : State} (h : Changes ps s₀ s) (f : Light → Light) (hc :
    ps.contains .light = true) : Changes ps s₀ (s.modLight f) := by
  refine h.trans fun p hp => ?_
  have hn : ¬ ps.contains p = true := by simpa using hp
  cases p <;> first
    | exact absurd hc hn
    | simp [State.agrees, State.modLight]

theorem State.modShade_changes {ps : List Part} {s₀ s : State} (h : Changes ps s₀ s) (f : Shade → Shade) (h0 :
    ps.contains .glare = true ∨ ∀ v, (f v).glare = v.glare ∧ (f v).dwellDue = v.dwellDue) (h1 : ps.contains .held =
    true ∨ ∀ v, (f v).held = v.held) : Changes ps s₀ (s.modShade f) := by
  refine h.trans fun p hp => ?_
  have hn : ¬ ps.contains p = true := by simpa using hp
  cases p <;> first
    | rfl
    | exact ⟨rfl, rfl⟩
    | simp [State.agrees, State.modShade]; done
    | exact (h0.resolve_left hn) _
    | exact (h1.resolve_left hn) _

theorem State.modDrive_changes {ps : List Part} {s₀ s : State} (h : Changes ps s₀ s) (f : Drive → Drive) (hc :
    ps.contains .drive = true) : Changes ps s₀ (s.modDrive f) := by
  refine h.trans fun p hp => ?_
  have hn : ¬ ps.contains p = true := by simpa using hp
  cases p <;> first
    | exact absurd hc hn
    | simp [State.agrees, State.modDrive]

theorem State.modPair_changes {ps : List Part} {s₀ s : State} (h : Changes ps s₀ s) (f : Pair → Pair) (h0 :
    ps.contains .pairState = true ∨ ∀ v, (f v).state = v.state ∧ (f v).readsOpen = v.readsOpen) (h1 : ps.contains
    .partition = true ∨ ∀ v, (f v).debounceDue = v.debounceDue) (h2 : ps.contains .offers = true ∨ ∀ v, (f v).offerDue
    = v.offerDue ∧ (f v).offerCount = v.offerCount) (h3 : ps.contains .pairTimers = true ∨ ∀ v, (f v).livenessDue =
    v.livenessDue ∧ (f v).periodDue = v.periodDue) (h4 : ps.contains .pairData = true ∨ ∀ v, (f v).followerCount =
    v.followerCount ∧ (f v).combined = v.combined ∧ (f v).evidenceFlag = v.evidenceFlag ∧ (f v).forwarded =
    v.forwarded ∧ (f v).sequence = v.sequence ∧ (f v).lastSequence = v.lastSequence) (h5 : ps.contains .mirror = true
    ∨ ∀ v, (f v).mirror = v.mirror) (h6 : ps.contains .handed = true ∨ ∀ v, (f v).handed = v.handed) : Changes ps s₀
    (s.modPair f) := by
  refine h.trans fun p hp => ?_
  have hn : ¬ ps.contains p = true := by simpa using hp
  cases p <;> first
    | rfl
    | exact ⟨rfl, rfl⟩
    | simp [State.agrees, State.modPair]; done
    | exact (h0.resolve_left hn) _
    | exact (h1.resolve_left hn) _
    | exact (h2.resolve_left hn) _
    | exact (h3.resolve_left hn) _
    | exact (h4.resolve_left hn) _
    | exact (h5.resolve_left hn) _
    | exact (h6.resolve_left hn) _

theorem State.modOverrides_changes {ps : List Part} {s₀ s : State} (h : Changes ps s₀ s) (f : Overrides → Overrides)
    (h0 : ps.contains .overrideRecords = true ∨ ∀ v, (f v).records = v.records) (h1 : ps.contains .modes = true ∨ ∀ v,
    (f v).frameMode = v.frameMode ∧ (f v).lifeSafety = v.lifeSafety) (h2 : ps.contains .hold = true ∨ ∀ v, (f v).hold
    = v.hold) (h3 : ps.contains .indicator = true ∨ ∀ v, (f v).sending = v.sending ∧ (f v).indicatorWaiting =
    v.indicatorWaiting) : Changes ps s₀ (s.modOverrides f) := by
  refine h.trans fun p hp => ?_
  have hn : ¬ ps.contains p = true := by simpa using hp
  cases p <;> first
    | rfl
    | exact ⟨rfl, rfl⟩
    | simp [State.agrees, State.modOverrides]; done
    | exact (h0.resolve_left hn) _
    | exact (h1.resolve_left hn) _
    | exact (h2.resolve_left hn) _
    | exact (h3.resolve_left hn) _

theorem State.modOut_changes {ps : List Part} {s₀ s : State} (h : Changes ps s₀ s) (f : Outputs → Outputs) (h0 :
    ps.contains .dims = true ∨ ∀ v, (f v).dim1 = v.dim1 ∧ (f v).dim2 = v.dim2) (h1 : ps.contains .damper = true ∨ ∀ v,
    (f v).dmp = v.dmp) (h2 : ps.contains .motor = true ∨ ∀ v, (f v).motorUp = v.motorUp ∧ (f v).motorDown =
    v.motorDown ∧ (f v).selected = v.selected) : Changes ps s₀ (s.modOut f) := by
  refine h.trans fun p hp => ?_
  have hn : ¬ ps.contains p = true := by simpa using hp
  cases p <;> first
    | rfl
    | exact ⟨rfl, rfl⟩
    | simp [State.agrees, State.modOut]; done
    | exact (h0.resolve_left hn) _
    | exact (h1.resolve_left hn) _
    | exact (h2.resolve_left hn) _

theorem State.modPins_changes {ps : List Part} {s₀ s : State} (h : Changes ps s₀ s) (f : Pins → Pins) (hc :
    ps.contains .pins = true) : Changes ps s₀ (s.modPins f) := by
  refine h.trans fun p hp => ?_
  have hn : ¬ ps.contains p = true := by simpa using hp
  cases p <;> first
    | exact absurd hc hn
    | simp [State.agrees, State.modPins]

theorem State.withPeers_changes {ps : List Part} {s₀ s : State} (h : Changes ps s₀ s) (l : List Peer) (hc :
    ps.contains .peers = true) : Changes ps s₀ (s.withPeers l) := by
  refine h.trans fun p hp => ?_
  have hn : ¬ ps.contains p = true := by simpa using hp
  cases p <;> first
    | exact absurd hc hn
    | simp [State.agrees, State.withPeers]

theorem State.withPhase_changes {ps : List Part} {s₀ s : State} (h : Changes ps s₀ s) (p : NodePhase) (hc :
    ps.contains .phase = true) : Changes ps s₀ (s.withPhase p) := by
  refine h.trans fun p hp => ?_
  have hn : ¬ ps.contains p = true := by simpa using hp
  cases p <;> first
    | exact absurd hc hn
    | simp [State.agrees, State.withPhase]

theorem State.countDraw_changes {ps : List Part} {s₀ s : State} (h : Changes ps s₀ s) (hc : ps.contains .draws = true)
    : Changes ps s₀ (s.countDraw) := by
  refine h.trans fun p hp => ?_
  have hn : ¬ ps.contains p = true := by simpa using hp
  cases p <;> first
    | exact absurd hc hn
    | simp [State.agrees, State.countDraw]

theorem State.advanceTo_changes {ps : List Part} {s₀ s : State} (h : Changes ps s₀ s) (due : Nat) (hc : ps.contains
    .now = true) : Changes ps s₀ (s.advanceTo due) := by
  refine h.trans fun p hp => ?_
  have hn : ¬ ps.contains p = true := by simpa using hp
  cases p <;> first
    | exact absurd hc hn
    | simp [State.agrees, State.advanceTo]

theorem State.tick_changes {ps : List Part} {s₀ s : State} (h : Changes ps s₀ s) (hc : ps.contains .now = true) :
    Changes ps s₀ (s.tick) := by
  refine h.trans fun p hp => ?_
  have hn : ¬ ps.contains p = true := by simpa using hp
  cases p <;> first
    | exact absurd hc hn
    | simp [State.agrees, State.tick]

/-! ### The named operations -/

theorem State.onExpiry_changes {ps : List Part} {s₀ s : State} {act : State → State} (ha : ∀ s, Changes ps s (act s))
    (h : Changes ps s₀ s) (timer : Option Nat) (hc : ps.contains .now = true) : Changes ps s₀ (s.onExpiry timer act) := by
  unfold State.onExpiry
  split
  · exact h
  · exact (State.advanceTo_changes h _ hc).trans (ha _)

theorem State.whileRunning_changes {ps : List Part} {s₀ s : State} {act : State → State} (ha : ∀ s, Changes ps s (act s))
    (h : Changes ps s₀ s) : Changes ps s₀ (s.whileRunning act) := by
  unfold State.whileRunning
  split
  · exact h.trans (ha s)
  · exact h

/-! ### The report queue and the latches -/

theorem State.insertReport_changes {ps : List Part} {s₀ s : State} (h : Changes ps s₀ s) (e : Entry) (hc : covers ps
    [.queue] = true) : Changes ps s₀ (s.insertReport e) := by
  refine h.then ?_ hc
  unfold State.insertReport
  simp +decide (maxDischargeDepth := 30) only [Changes.refl, implies_true, true_or, or_true, and_self,
      State.modLink_changes]

theorem State.dropEntry_changes {ps : List Part} {s₀ s : State} (h : Changes ps s₀ s) (k : ReportKind) (hc : covers ps
    [.queue] = true) : Changes ps s₀ (s.dropEntry k) := by
  refine h.then ?_ hc
  unfold State.dropEntry
  simp +decide (maxDischargeDepth := 30) only [Changes.refl, implies_true, true_or, or_true, and_self,
      State.modLink_changes]

theorem State.placeEntry_changes {ps : List Part} {s₀ s : State} (h : Changes ps s₀ s) (e : Entry) (hc : covers ps
    [.queue] = true) : Changes ps s₀ (s.placeEntry e) := by
  refine h.then ?_ hc
  unfold State.placeEntry
  repeat' first
    | (simp +decide (maxDischargeDepth := 30) only [Changes.refl, Changes.ite, State.insertReport_changes,
        State.dropEntry_changes])
    | split

theorem State.queueWith_changes {ps : List Part} {s₀ s : State} (h : Changes ps s₀ s) (k : ReportKind) (msg : Option
    PairMsg) (hc : covers ps [.queue] = true) : Changes ps s₀ (s.queueWith k msg) := by
  refine h.then ?_ hc
  unfold State.queueWith
  simp +decide (maxDischargeDepth := 30) only [Changes.refl, Changes.ite, implies_true, true_or, or_true,
      and_self, State.placeEntry_changes, State.modLink_changes]

theorem State.queueReport_changes {ps : List Part} {s₀ s : State} (h : Changes ps s₀ s) (k : ReportKind) (hc : covers
    ps [.queue] = true) : Changes ps s₀ (s.queueReport k) := by
  refine h.then ?_ hc
  unfold State.queueReport
  simp +decide (maxDischargeDepth := 30) only [Changes.refl, State.queueWith_changes]

theorem State.queuePairCtrl_changes {ps : List Part} {s₀ s : State} (h : Changes ps s₀ s) (m : PairMsg) (hc : covers
    ps [.queue] = true) : Changes ps s₀ (s.queuePairCtrl m) := by
  refine h.then ?_ hc
  unfold State.queuePairCtrl
  simp +decide (maxDischargeDepth := 30) only [Changes.refl, State.queueWith_changes]

theorem State.setLatch_changes {ps : List Part} {s₀ s : State} (h : Changes ps s₀ s) (k : EventKind) (l : Option
    Latch) (hc : covers ps [.latches] = true) : Changes ps s₀ (s.setLatch k l) := by
  refine h.then ?_ hc
  unfold State.setLatch
  simp +decide (maxDischargeDepth := 30) only [Changes.refl, implies_true, true_or, or_true, and_self,
      State.modLink_changes]

theorem State.latchEvent_changes {ps : List Part} {s₀ s : State} (h : Changes ps s₀ s) (d : Detail) (hc : covers ps
    [.queue, .latches] = true) : Changes ps s₀ (s.latchEvent d) := by
  refine h.then ?_ hc
  unfold State.latchEvent
  simp +decide (maxDischargeDepth := 30) only [Changes.refl, Changes.ite, State.setLatch_changes,
      State.queueReport_changes]

theorem State.refillKind_changes {ps : List Part} {s₀ s : State} (h : Changes ps s₀ s) (k : EventKind) (hc : covers ps
    [.queue] = true) : Changes ps s₀ (s.refillKind k) := by
  refine h.then ?_ hc
  unfold State.refillKind
  simp +decide (maxDischargeDepth := 30) only [Changes.refl, Changes.ite, State.insertReport_changes]

theorem State.refill_changes {ps : List Part} {s₀ s : State} (h : Changes ps s₀ s) (hc : covers ps [.queue] = true) :
    Changes ps s₀ (s.refill) := by
  refine h.then ?_ hc
  unfold State.refill
  simp +decide (maxDischargeDepth := 30) only [Changes.refl, implies_true, State.refillKind_changes, Changes.foldl]

theorem State.orphanAttempt_changes {ps : List Part} {s₀ s : State} (h : Changes ps s₀ s) (k : ReportKind) (hc :
    covers ps [.attempt] = true) : Changes ps s₀ (s.orphanAttempt k) := by
  refine h.then ?_ hc
  unfold State.orphanAttempt
  simp +decide (maxDischargeDepth := 30) only [Changes.refl, implies_true, true_or, or_true, and_self,
      State.modLink_changes]

theorem State.removeReport_changes {ps : List Part} {s₀ s : State} (h : Changes ps s₀ s) (k : ReportKind) (hc : covers
    ps [.attempt, .queue] = true) : Changes ps s₀ (s.removeReport k) := by
  refine h.then ?_ hc
  unfold State.removeReport
  simp +decide (maxDischargeDepth := 30) only [Changes.refl, Changes.ite, State.orphanAttempt_changes,
      State.dropEntry_changes, State.refill_changes]

/-! ### The Blind Drive -/

theorem State.setPosition_changes {ps : List Part} {s₀ s : State} (h : Changes ps s₀ s) (b : Bank) (p : Nat) (hc :
    covers ps [.drive] = true) : Changes ps s₀ (s.setPosition b p) := by
  refine h.then ?_ hc
  unfold State.setPosition
  simp +decide (maxDischargeDepth := 30) only [Changes.refl, State.modDrive_changes]

theorem State.setUncertain_changes {ps : List Part} {s₀ s : State} (h : Changes ps s₀ s) (b : Bank) (u : Bool) (hc :
    covers ps [.drive] = true) : Changes ps s₀ (s.setUncertain b u) := by
  refine h.then ?_ hc
  unfold State.setUncertain
  simp +decide (maxDischargeDepth := 30) only [Changes.refl, State.modDrive_changes]

theorem State.setWaiting_changes {ps : List Part} {s₀ s : State} (h : Changes ps s₀ s) (b : Bank) (t : Option Target)
    (hc : covers ps [.drive] = true) : Changes ps s₀ (s.setWaiting b t) := by
  refine h.then ?_ hc
  unfold State.setWaiting
  simp +decide (maxDischargeDepth := 30) only [Changes.refl, State.modDrive_changes]

theorem State.stopMotor_changes {ps : List Part} {s₀ s : State} (h : Changes ps s₀ s) (hc : covers ps [.motor, .drive]
    = true) : Changes ps s₀ (s.stopMotor) := by
  refine h.then ?_ hc
  unfold State.stopMotor
  simp +decide (maxDischargeDepth := 30) only [Changes.refl, implies_true, true_or, or_true, and_self,
      State.modDrive_changes, State.modOut_changes]

theorem State.runMotor_changes {ps : List Part} {s₀ s : State} (h : Changes ps s₀ s) (m : Move) (hc : covers ps
    [.motor, .drive] = true) : Changes ps s₀ (s.runMotor m) := by
  refine h.then ?_ hc
  unfold State.runMotor
  simp +decide (maxDischargeDepth := 30) only [Changes.refl, implies_true, true_or, or_true, and_self,
      State.modDrive_changes, State.modOut_changes]

theorem State.cutMove_changes {ps : List Part} {s₀ s : State} (h : Changes ps s₀ s) (m : Move) (hc : covers ps
    [.motor, .drive] = true) : Changes ps s₀ (s.cutMove m) := by
  refine h.then ?_ hc
  unfold State.cutMove
  repeat' first
    | (simp +decide (maxDischargeDepth := 30) only [Changes.refl, State.setPosition_changes,
        State.stopMotor_changes])
    | split

theorem State.tripMove_changes {ps : List Part} {s₀ s : State} (h : Changes ps s₀ s) (m : Move) (hc : covers ps
    [.motor, .queue, .latches, .drive] = true) : Changes ps s₀ (s.tripMove m) := by
  refine h.then ?_ hc
  unfold State.tripMove
  simp +decide (maxDischargeDepth := 30) only [Changes.refl, State.cutMove_changes, State.setUncertain_changes,
      State.latchEvent_changes]

theorem State.startMove_changes {ps : List Part} {s₀ s : State} (h : Changes ps s₀ s) (b : Bank) (t : Target) (hc :
    covers ps [.motor, .queue, .latches, .drive] = true) : Changes ps s₀ (s.startMove b t) := by
  refine h.then ?_ hc
  unfold State.startMove
  simp +decide (maxDischargeDepth := 30) only [Changes.refl, Changes.ite, State.setUncertain_changes,
      State.latchEvent_changes, State.runMotor_changes]

theorem State.grantTurns_changes : ∀ (n : Nat) {ps : List Part} {s₀ s : State}, Changes ps s₀ s →
    covers ps [.motor, .queue, .latches, .drive] = true → Changes ps s₀ (State.grantTurns n s)
  | 0, _, _, _, h, _ => h
  | n + 1, ps, s₀, s, h, hc => by
    refine h.then ?_ hc
    have ih := @State.grantTurns_changes n
    unfold State.grantTurns
    repeat' first
      | (simp +decide (maxDischargeDepth := 30) only [Changes.refl, Changes.ite, ih,
          State.startMove_changes, State.setWaiting_changes])
      | split

theorem State.grant_changes {ps : List Part} {s₀ s : State} (h : Changes ps s₀ s) (hc : covers ps [.motor, .queue,
    .latches, .drive] = true) : Changes ps s₀ (s.grant) := by
  refine h.then ?_ hc
  unfold State.grant
  simp +decide (maxDischargeDepth := 30) only [Changes.refl, State.grantTurns_changes]

theorem State.keepUnlessThere_changes {ps : List Part} {s₀ s : State} (h : Changes ps s₀ s) (b : Bank) (t : Target)
    (hc : covers ps [.drive] = true) : Changes ps s₀ (s.keepUnlessThere b t) := by
  refine h.then ?_ hc
  unfold State.keepUnlessThere
  simp +decide (maxDischargeDepth := 30) only [Changes.refl, State.setWaiting_changes]

theorem State.cutForRequest_changes {ps : List Part} {s₀ s : State} (h : Changes ps s₀ s) (m : Move) (t : Target) (hc
    : covers ps [.motor, .queue, .latches, .drive] = true) : Changes ps s₀ (s.cutForRequest m t) := by
  refine h.then ?_ hc
  unfold State.cutForRequest
  simp +decide (maxDischargeDepth := 30) only [Changes.refl, State.cutMove_changes,
      State.keepUnlessThere_changes, State.grant_changes]

theorem State.requestMoving_changes {ps : List Part} {s₀ s : State} (h : Changes ps s₀ s) (m : Move) (t : Target) (hc
    : covers ps [.motor, .queue, .latches, .drive] = true) : Changes ps s₀ (s.requestMoving m t) := by
  refine h.then ?_ hc
  unfold State.requestMoving
  repeat' first
    | (simp +decide (maxDischargeDepth := 30) only [Changes.refl, Changes.ite, State.cutForRequest_changes,
        State.modDrive_changes])
    | split

theorem State.requestStanding_changes {ps : List Part} {s₀ s : State} (h : Changes ps s₀ s) (b : Bank) (t : Target)
    (hc : covers ps [.motor, .queue, .latches, .drive] = true) : Changes ps s₀ (s.requestStanding b t) := by
  refine h.then ?_ hc
  unfold State.requestStanding
  simp +decide (maxDischargeDepth := 30) only [Changes.refl, Changes.ite, State.setWaiting_changes,
      State.startMove_changes, State.grant_changes]

theorem State.requestBank_changes {ps : List Part} {s₀ s : State} (h : Changes ps s₀ s) (b : Bank) (t : Target) (hc :
    covers ps [.motor, .queue, .latches, .drive] = true) : Changes ps s₀ (s.requestBank b t) := by
  refine h.then ?_ hc
  unfold State.requestBank
  repeat' first
    | (simp +decide (maxDischargeDepth := 30) only [Changes.refl, Changes.ite, State.requestMoving_changes,
        State.requestStanding_changes])
    | split

theorem State.driveHoldOn_changes {ps : List Part} {s₀ s : State} (h : Changes ps s₀ s) (hc : covers ps [.motor,
    .queue, .latches, .drive] = true) : Changes ps s₀ (s.driveHoldOn) := by
  refine h.then ?_ hc
  unfold State.driveHoldOn
  repeat' first
    | (simp +decide (maxDischargeDepth := 30) only [Changes.refl, State.cutForRequest_changes])
    | split

theorem State.driveLifeSafety_changes {ps : List Part} {s₀ s : State} (h : Changes ps s₀ s) (hc : covers ps [.motor,
    .drive] = true) : Changes ps s₀ (s.driveLifeSafety) := by
  refine h.then ?_ hc
  unfold State.driveLifeSafety
  dsimp only
  repeat' first
    | (simp +decide (maxDischargeDepth := 30) only [Changes.refl, State.cutMove_changes, State.modDrive_changes])
    | split

theorem State.driveStop_changes {ps : List Part} {s₀ s : State} (h : Changes ps s₀ s) (hc : covers ps [.motor, .drive]
    = true) : Changes ps s₀ (s.driveStop) := by
  refine h.then ?_ hc
  unfold State.driveStop
  dsimp only
  repeat' first
    | (simp +decide (maxDischargeDepth := 30) only [Changes.refl, State.cutMove_changes, State.modDrive_changes])
    | split

theorem State.completeTravel_changes {ps : List Part} {s₀ s : State} (h : Changes ps s₀ s) (m : Move) (hc : covers ps
    [.motor, .queue, .latches, .drive] = true) : Changes ps s₀ (s.completeTravel m) := by
  refine h.then ?_ hc
  unfold State.completeTravel
  simp +decide (maxDischargeDepth := 30) only [Changes.refl, State.setPosition_changes, State.stopMotor_changes,
      State.grant_changes]

theorem State.endHoming_changes {ps : List Part} {s₀ s : State} (h : Changes ps s₀ s) (m : Move) (follow : Target) (hc
    : covers ps [.motor, .queue, .latches, .drive] = true) : Changes ps s₀ (s.endHoming m follow) := by
  refine h.then ?_ hc
  unfold State.endHoming
  simp +decide (maxDischargeDepth := 30) only [Changes.refl, Changes.ite, State.setPosition_changes,
      State.setUncertain_changes, State.stopMotor_changes, State.grant_changes, State.runMotor_changes]

theorem State.travelDone_changes {ps : List Part} {s₀ s : State} (h : Changes ps s₀ s) (hc : covers ps [.now, .motor,
    .queue, .latches, .drive] = true) : Changes ps s₀ (s.travelDone) := by
  refine h.then ?_ hc
  unfold State.travelDone
  repeat' first
    | (simp +decide (maxDischargeDepth := 30) only [Changes.refl, State.advanceTo_changes,
        State.completeTravel_changes])
    | split

theorem State.homingDone_changes {ps : List Part} {s₀ s : State} (h : Changes ps s₀ s) (hc : covers ps [.now, .motor,
    .queue, .latches, .drive] = true) : Changes ps s₀ (s.homingDone) := by
  refine h.then ?_ hc
  unfold State.homingDone
  repeat' first
    | (simp +decide (maxDischargeDepth := 30) only [Changes.refl, State.advanceTo_changes,
        State.endHoming_changes])
    | split

theorem State.tripNow_changes {ps : List Part} {s₀ s : State} (h : Changes ps s₀ s) (hc : covers ps [.motor, .queue,
    .latches, .drive] = true) : Changes ps s₀ (s.tripNow) := by
  refine h.then ?_ hc
  unfold State.tripNow
  repeat' first
    | (simp +decide (maxDischargeDepth := 30) only [Changes.refl, State.tripMove_changes, State.grant_changes])
    | split

/-! ### The Light Loop and the Shade Policy -/

theorem State.setDims_changes {ps : List Part} {s₀ s : State} (h : Changes ps s₀ s) (a b : Nat) (hc : covers ps
    [.dims] = true) : Changes ps s₀ (s.setDims a b) := by
  refine h.then ?_ hc
  unfold State.setDims
  simp +decide (maxDischargeDepth := 30) only [Changes.refl, implies_true, true_or, or_true, and_self,
      State.modOut_changes]

theorem State.driveDims_changes {ps : List Part} {s₀ s : State} (h : Changes ps s₀ s) (hc : covers ps [.dims] = true)
    : Changes ps s₀ (s.driveDims) := by
  refine h.then ?_ hc
  unfold State.driveDims
  simp +decide (maxDischargeDepth := 30) only [Changes.refl, Changes.ite, State.setDims_changes]

theorem State.loopStep_changes {ps : List Part} {s₀ s : State} (h : Changes ps s₀ s) (hc : covers ps [.dims, .light] =
    true) : Changes ps s₀ (s.loopStep) := by
  refine h.then ?_ hc
  unfold State.loopStep
  simp +decide (maxDischargeDepth := 30) only [Changes.refl, Changes.ite, State.driveDims_changes,
      State.modLight_changes]

theorem State.useActiveScene_changes {ps : List Part} {s₀ s : State} (h : Changes ps s₀ s) (hc : covers ps [.light] =
    true) : Changes ps s₀ (s.useActiveScene) := by
  refine h.then ?_ hc
  unfold State.useActiveScene
  simp +decide (maxDischargeDepth := 30) only [Changes.refl, State.modLight_changes]

theorem State.useLoopTarget_changes {ps : List Part} {s₀ s : State} (h : Changes ps s₀ s) (hc : covers ps [.light] =
    true) : Changes ps s₀ (s.useLoopTarget) := by
  refine h.then ?_ hc
  unfold State.useLoopTarget
  simp +decide (maxDischargeDepth := 30) only [Changes.refl, Changes.ite, State.modLight_changes]

theorem State.relight_changes {ps : List Part} {s₀ s : State} (h : Changes ps s₀ s) (hc : covers ps [.dims, .light] =
    true) : Changes ps s₀ (s.relight) := by
  refine h.then ?_ hc
  unfold State.relight
  simp +decide (maxDischargeDepth := 30) only [Changes.refl, State.useActiveScene_changes,
      State.useLoopTarget_changes, State.driveDims_changes]

theorem State.setHeld_changes {ps : List Part} {s₀ s : State} (h : Changes ps s₀ s) (b : Bank) (t : Option Target) (hc
    : covers ps [.held] = true) : Changes ps s₀ (s.setHeld b t) := by
  refine h.then ?_ hc
  unfold State.setHeld
  simp +decide (maxDischargeDepth := 30) only [Changes.refl, implies_true, true_or, or_true, and_self,
      State.modShade_changes]

theorem State.decideBank_changes {ps : List Part} {s₀ s : State} (h : Changes ps s₀ s) (b : Bank) (t : Option Target)
    (hc : covers ps [.motor, .queue, .latches, .held, .drive] = true) : Changes ps s₀ (s.decideBank b t) := by
  refine h.then ?_ hc
  unfold State.decideBank
  repeat' first
    | (simp +decide (maxDischargeDepth := 30) only [Changes.refl, Changes.ite, State.setHeld_changes,
        State.requestBank_changes])
    | split

theorem State.decideTargets_changes {ps : List Part} {s₀ s : State} (h : Changes ps s₀ s) (hc : covers ps [.motor,
    .queue, .latches, .held, .drive] = true) : Changes ps s₀ (s.decideTargets) := by
  refine h.then ?_ hc
  unfold State.decideTargets
  simp +decide (maxDischargeDepth := 30) only [Changes.refl, implies_true, State.decideBank_changes, Changes.foldl]

theorem State.reissueBank_changes {ps : List Part} {s₀ s : State} (h : Changes ps s₀ s) (b : Bank) (hc : covers ps
    [.motor, .queue, .latches, .drive] = true) : Changes ps s₀ (s.reissueBank b) := by
  refine h.then ?_ hc
  unfold State.reissueBank
  repeat' first
    | (simp +decide (maxDischargeDepth := 30) only [Changes.refl, State.requestBank_changes])
    | split

theorem State.reissue_changes {ps : List Part} {s₀ s : State} (h : Changes ps s₀ s) (hc : covers ps [.motor, .queue,
    .latches, .drive] = true) : Changes ps s₀ (s.reissue) := by
  refine h.then ?_ hc
  unfold State.reissue
  simp +decide (maxDischargeDepth := 30) only [Changes.refl, implies_true, State.reissueBank_changes, Changes.foldl]

theorem State.handCarried_changes {ps : List Part} {s₀ s : State} (h : Changes ps s₀ s) (hc : covers ps [.queue,
    .handed] = true) : Changes ps s₀ (s.handCarried) := by
  refine h.then ?_ hc
  unfold State.handCarried
  simp +decide (maxDischargeDepth := 30) only [Changes.refl, Changes.ite, implies_true, true_or, or_true,
      and_self, State.queueReport_changes, State.modPair_changes]

theorem State.reshade_changes {ps : List Part} {s₀ s : State} (h : Changes ps s₀ s) (hc : covers ps [.motor, .queue,
    .latches, .held, .drive, .handed] = true) : Changes ps s₀ (s.reshade) := by
  refine h.then ?_ hc
  unfold State.reshade
  simp +decide (maxDischargeDepth := 30) only [Changes.refl, State.decideTargets_changes, State.handCarried_changes]

theorem State.relightAndShade_changes {ps : List Part} {s₀ s : State} (h : Changes ps s₀ s) (hc : covers ps [.dims,
    .motor, .queue, .latches, .light, .held, .drive, .handed] = true) : Changes ps s₀ (s.relightAndShade) := by
  refine h.then ?_ hc
  unfold State.relightAndShade
  simp +decide (maxDischargeDepth := 30) only [Changes.refl, State.relight_changes, State.reshade_changes]

/-! ### The Air Share Engine -/

theorem State.evaluatePinch_changes {ps : List Part} {s₀ s : State} (h : Changes ps s₀ s) (hc : covers ps [.grant] =
    true) : Changes ps s₀ (s.evaluatePinch) := by
  refine h.then ?_ hc
  unfold State.evaluatePinch
  simp +decide (maxDischargeDepth := 30) only [Changes.refl, implies_true, true_or, or_true, and_self,
      State.modAir_changes]

theorem State.setDamper_changes {ps : List Part} {s₀ s : State} (h : Changes ps s₀ s) (x : Nat) (hc : covers ps
    [.damper] = true) : Changes ps s₀ (s.setDamper x) := by
  refine h.then ?_ hc
  unfold State.setDamper
  simp +decide (maxDischargeDepth := 30) only [Changes.refl, implies_true, true_or, or_true, and_self,
      State.modOut_changes]

theorem State.driveDamper_changes {ps : List Part} {s₀ s : State} (h : Changes ps s₀ s) (hc : covers ps [.damper] =
    true) : Changes ps s₀ (s.driveDamper) := by
  refine h.then ?_ hc
  unfold State.driveDamper
  simp +decide (maxDischargeDepth := 30) only [Changes.refl, Changes.ite, State.setDamper_changes]

theorem State.safetyDamper_changes {ps : List Part} {s₀ s : State} (h : Changes ps s₀ s) (hc : covers ps [.damper] =
    true) : Changes ps s₀ (s.safetyDamper) := by
  refine h.then ?_ hc
  unfold State.safetyDamper
  repeat' first
    | (simp +decide (maxDischargeDepth := 30) only [Changes.refl, State.setDamper_changes])
    | split

theorem State.recompute_changes {ps : List Part} {s₀ s : State} (h : Changes ps s₀ s) (hc : covers ps [.damper,
    .grant] = true) : Changes ps s₀ (s.recompute) := by
  refine h.then ?_ hc
  unfold State.recompute
  simp +decide (maxDischargeDepth := 30) only [Changes.refl, implies_true, true_or, or_true, and_self,
      State.evaluatePinch_changes, State.driveDamper_changes, State.modAir_changes]

theorem State.holdRecord_changes {ps : List Part} {s₀ s : State} (h : Changes ps s₀ s) (r : OwnRecord) (hc : covers ps
    [.airRecord] = true) : Changes ps s₀ (s.holdRecord r) := by
  refine h.then ?_ hc
  unfold State.holdRecord
  simp +decide (maxDischargeDepth := 30) only [Changes.refl, implies_true, true_or, or_true, and_self,
      State.modAir_changes]

theorem State.evaluate_changes {ps : List Part} {s₀ s : State} (h : Changes ps s₀ s) (hc : covers ps [.damper, .queue,
    .airRecord, .grant] = true) : Changes ps s₀ (s.evaluate) := by
  refine h.then ?_ hc
  unfold State.evaluate
  simp +decide (maxDischargeDepth := 30) only [Changes.refl, Changes.ite, State.holdRecord_changes,
      State.recompute_changes, State.queueReport_changes]

theorem State.evaluateAtStart_changes {ps : List Part} {s₀ s : State} (h : Changes ps s₀ s) (hc : covers ps [.damper,
    .airRecord, .grant] = true) : Changes ps s₀ (s.evaluateAtStart) := by
  refine h.then ?_ hc
  unfold State.evaluateAtStart
  simp +decide (maxDischargeDepth := 30) only [Changes.refl, State.holdRecord_changes, State.recompute_changes]

/-! ### The Override Table -/

theorem State.handToReader_changes {ps : List Part} {s₀ s : State} (h : Changes ps s₀ s) (q : Quantity) (hc : covers
    ps [.dims, .damper, .motor, .queue, .latches, .airRecord, .grant, .light, .held, .drive, .handed] = true) :
    Changes ps s₀ (s.handToReader q) := by
  refine h.then ?_ hc
  unfold State.handToReader
  repeat' first
    | (simp +decide (maxDischargeDepth := 30) only [Changes.refl, State.relightAndShade_changes,
        State.relight_changes, State.handCarried_changes, State.reshade_changes, State.evaluate_changes])
    | split

theorem State.putRecord_changes {ps : List Part} {s₀ s : State} (h : Changes ps s₀ s) (q : Quantity) (r : Option
    OverrideRecord) (hc : covers ps [.overrideRecords] = true) : Changes ps s₀ (s.putRecord q r) := by
  refine h.then ?_ hc
  unfold State.putRecord
  simp +decide (maxDischargeDepth := 30) only [Changes.refl, implies_true, true_or, or_true, and_self,
      State.modOverrides_changes]

theorem State.placeRecord_changes {ps : List Part} {s₀ s : State} (h : Changes ps s₀ s) (q : Quantity) (r :
    OverrideRecord) (hc : covers ps Part.readers = true) : Changes ps s₀ (s.placeRecord q r) := by
  refine h.then ?_ hc
  unfold State.placeRecord
  simp +decide (maxDischargeDepth := 30) only [Changes.refl, State.putRecord_changes, State.handToReader_changes]

theorem State.removeRecord_changes {ps : List Part} {s₀ s : State} (h : Changes ps s₀ s) (q : Quantity) (hc : covers
    ps Part.readers = true) : Changes ps s₀ (s.removeRecord q) := by
  refine h.then ?_ hc
  unfold State.removeRecord
  simp +decide (maxDischargeDepth := 30) only [Changes.refl, Changes.ite, State.putRecord_changes,
      State.handToReader_changes]

theorem State.removeRecordIf_changes {ps : List Part} {s₀ s : State} (h : Changes ps s₀ s) (p : OverrideRecord → Bool)
    (q : Quantity) (hc : covers ps Part.readers = true) : Changes ps s₀ (s.removeRecordIf p q) := by
  refine h.then ?_ hc
  unfold State.removeRecordIf
  simp +decide (maxDischargeDepth := 30) only [Changes.refl, Changes.ite, State.removeRecord_changes]

theorem State.removeWhere_changes {ps : List Part} {s₀ s : State} (h : Changes ps s₀ s) (p : OverrideRecord → Bool)
    (hc : covers ps Part.readers = true) : Changes ps s₀ (s.removeWhere p) := by
  refine h.then ?_ hc
  unfold State.removeWhere
  simp +decide (maxDischargeDepth := 30) only [Changes.refl, implies_true, State.removeRecordIf_changes, Changes.foldl]

theorem State.markStale_changes {ps : List Part} {s₀ s : State} (h : Changes ps s₀ s) (hc : covers ps
    [.overrideRecords] = true) : Changes ps s₀ (s.markStale) := by
  refine h.then ?_ hc
  unfold State.markStale
  simp +decide (maxDischargeDepth := 30) only [Changes.refl, implies_true, true_or, or_true, and_self,
      State.modOverrides_changes]

theorem State.removeStale_changes {ps : List Part} {s₀ s : State} (h : Changes ps s₀ s) (hc : covers ps Part.readers =
    true) : Changes ps s₀ (s.removeStale) := by
  refine h.then ?_ hc
  unfold State.removeStale
  simp +decide (maxDischargeDepth := 30) only [Changes.refl, State.removeWhere_changes]

theorem State.expireRecords_changes {ps : List Part} {s₀ s : State} (h : Changes ps s₀ s) (hc : covers ps Part.readers
    = true) : Changes ps s₀ (s.expireRecords) := by
  refine h.then ?_ hc
  unfold State.expireRecords
  simp +decide (maxDischargeDepth := 30) only [Changes.refl, State.removeWhere_changes]

theorem State.takeRequest_changes {ps : List Part} {s₀ s : State} (h : Changes ps s₀ s) (r : Request) (hc : covers ps
    Part.readers = true) : Changes ps s₀ (s.takeRequest r) := by
  refine h.then ?_ hc
  unfold State.takeRequest
  repeat' first
    | (simp +decide (maxDischargeDepth := 30) only [Changes.refl, Changes.ite, State.latchEvent_changes,
        State.removeRecord_changes, State.placeRecord_changes])
    | split

/-! ### The Room State Machine -/

theorem State.modRecords_changes {ps : List Part} {s₀ s : State} (h : Changes ps s₀ s) (f : List Session → List
    Session) (hc : covers ps [.records] = true) : Changes ps s₀ (s.modRecords f) := by
  refine h.then ?_ hc
  unfold State.modRecords
  simp +decide (maxDischargeDepth := 30) only [Changes.refl, implies_true, true_or, or_true, State.modSessions_changes]

theorem State.modRecordOf_changes {ps : List Part} {s₀ s : State} (h : Changes ps s₀ s) (id : Nat) (f : Session →
    Session) (hc : covers ps [.records] = true) : Changes ps s₀ (s.modRecordOf id f) := by
  refine h.then ?_ hc
  unfold State.modRecordOf
  simp +decide (maxDischargeDepth := 30) only [Changes.refl, State.modRecords_changes]

theorem State.removeSession_changes {ps : List Part} {s₀ s : State} (h : Changes ps s₀ s) (id : Nat) (hc : covers ps
    [.records] = true) : Changes ps s₀ (s.removeSession id) := by
  refine h.then ?_ hc
  unfold State.removeSession
  simp +decide (maxDischargeDepth := 30) only [Changes.refl, State.modRecords_changes]

theorem State.setOccupancy_changes {ps : List Part} {s₀ s : State} (h : Changes ps s₀ s) (o : Occupancy) (hc : covers
    ps [.occupancy] = true) : Changes ps s₀ (s.setOccupancy o) := by
  refine h.then ?_ hc
  unfold State.setOccupancy
  simp +decide (maxDischargeDepth := 30) only [Changes.refl, implies_true, true_or, or_true, and_self,
      State.modRoom_changes]

theorem State.clearOverrun_changes {ps : List Part} {s₀ s : State} (h : Changes ps s₀ s) (hc : covers ps [.occupancy]
    = true) : Changes ps s₀ (s.clearOverrun) := by
  refine h.then ?_ hc
  unfold State.clearOverrun
  simp +decide (maxDischargeDepth := 30) only [Changes.refl, implies_true, true_or, or_true, State.modRoom_changes]

theorem State.follow_changes {ps : List Part} {s₀ s : State} (h : Changes ps s₀ s) (id : Nat) (o : Occupancy) (hc :
    covers ps [.occupancy] = true) : Changes ps s₀ (s.follow id o) := by
  refine h.then ?_ hc
  unfold State.follow
  simp +decide (maxDischargeDepth := 30) only [Changes.refl, implies_true, true_or, or_true, State.modRoom_changes]

theorem State.releaseMark_changes {ps : List Part} {s₀ s : State} (h : Changes ps s₀ s) (hc : covers ps [.occupancy] =
    true) : Changes ps s₀ (s.releaseMark) := by
  refine h.then ?_ hc
  unfold State.releaseMark
  simp +decide (maxDischargeDepth := 30) only [Changes.refl, implies_true, true_or, or_true, and_self,
      State.modRoom_changes]

theorem State.raiseSwitch_changes {ps : List Part} {s₀ s : State} (h : Changes ps s₀ s) (hc : covers ps
    [.switchMarker] = true) : Changes ps s₀ (s.raiseSwitch) := by
  refine h.then ?_ hc
  unfold State.raiseSwitch
  simp +decide (maxDischargeDepth := 30) only [Changes.refl, implies_true, true_or, or_true, and_self,
      State.modRoom_changes]

theorem State.handSwitch_changes {ps : List Part} {s₀ s : State} (h : Changes ps s₀ s) (hc : covers ps [.switchMarker,
    .overrideRecords] = true) : Changes ps s₀ (s.handSwitch) := by
  refine h.then ?_ hc
  unfold State.handSwitch
  simp +decide (maxDischargeDepth := 30) only [Changes.refl, Changes.ite, implies_true, true_or, or_true,
      and_self, State.markStale_changes, State.modRoom_changes]

theorem State.dropStaleIfEmpty_changes {ps : List Part} {s₀ s : State} (h : Changes ps s₀ s) (hc : covers ps
    Part.readers = true) : Changes ps s₀ (s.dropStaleIfEmpty) := by
  refine h.then ?_ hc
  unfold State.dropStaleIfEmpty
  repeat' first
    | (simp +decide (maxDischargeDepth := 30) only [Changes.refl, State.removeStale_changes])
    | split

theorem State.handOff_changes {ps : List Part} {s₀ s : State} (h : Changes ps s₀ s) (before : Occupancy × Option Nat)
    (hc : covers ps ([.switchMarker] ++ Part.readers) = true) : Changes ps s₀ (s.handOff before) := by
  refine h.then ?_ hc
  unfold State.handOff
  simp +decide (maxDischargeDepth := 30) only [Changes.refl, Changes.ite, State.handSwitch_changes,
      State.evaluate_changes, State.relightAndShade_changes, State.dropStaleIfEmpty_changes,
      State.queueReport_changes]

theorem State.handle_changes {ps : List Part} {s₀ s : State} {core : State → State} (ha : ∀ s, Changes ps s (core s))
    (h : Changes ps s₀ s) (hc : covers ps ([.switchMarker] ++ Part.readers) = true) : Changes ps s₀ (s.handle core) :=
  State.handOff_changes (h.trans (ha s)) _ hc

theorem State.roomVacancy_changes {ps : List Part} {s₀ s : State} (h : Changes ps s₀ s) (hc : covers ps [.queue,
    .latches, .occupancy] = true) : Changes ps s₀ (s.roomVacancy) := by
  refine h.then ?_ hc
  unfold State.roomVacancy
  repeat' first
    | (simp +decide (maxDischargeDepth := 30) only [Changes.refl, Changes.ite, State.setOccupancy_changes,
        State.latchEvent_changes, State.clearOverrun_changes])
    | split

theorem State.formCombined_changes {ps : List Part} {s₀ s : State} (h : Changes ps s₀ s) (hc : covers ps [.pairData] =
    true) : Changes ps s₀ (s.formCombined) := by
  refine h.then ?_ hc
  unfold State.formCombined
  simp +decide (maxDischargeDepth := 30) only [Changes.refl, implies_true, true_or, or_true, and_self,
      State.modPair_changes]

theorem State.headcountChanged_changes {ps : List Part} {s₀ s : State} (h : Changes ps s₀ s) (hc : covers ps [.damper,
    .queue, .airRecord, .grant, .pairData] = true) : Changes ps s₀ (s.headcountChanged) := by
  refine h.then ?_ hc
  unfold State.headcountChanged
  simp +decide (maxDischargeDepth := 30) only [Changes.refl, Changes.ite, State.formCombined_changes,
      State.evaluate_changes, State.queueReport_changes]

theorem State.setHeadcount_changes {ps : List Part} {s₀ s : State} (h : Changes ps s₀ s) (n : Nat) (hc : covers ps
    [.damper, .queue, .headcount, .airRecord, .grant, .pairData] = true) : Changes ps s₀ (s.setHeadcount n) := by
  refine h.then ?_ hc
  unfold State.setHeadcount
  simp +decide (maxDischargeDepth := 30) only [Changes.refl, Changes.ite, implies_true, true_or, or_true,
      and_self, State.headcountChanged_changes, State.modEvidence_changes]

theorem State.clearHistory_changes {ps : List Part} {s₀ s : State} (h : Changes ps s₀ s) (hc : covers ps [.history] =
    true) : Changes ps s₀ (s.clearHistory) := by
  refine h.then ?_ hc
  unfold State.clearHistory
  simp +decide (maxDischargeDepth := 30) only [Changes.refl, implies_true, true_or, or_true, and_self,
      State.modEvidence_changes]

theorem State.declareVacancy_changes {ps : List Part} {s₀ s : State} (h : Changes ps s₀ s) (hc : covers ps
    Part.handling = true) : Changes ps s₀ (s.declareVacancy) := by
  refine h.then ?_ hc
  unfold State.declareVacancy
  simp +decide (maxDischargeDepth := 30) only [Changes.refl, implies_true, State.setHeadcount_changes,
      State.clearHistory_changes, State.handle_changes, State.roomVacancy_changes]

theorem State.deferredTest_changes {ps : List Part} {s₀ s : State} (h : Changes ps s₀ s) (hc : covers ps Part.handling
    = true) : Changes ps s₀ (s.deferredTest) := by
  refine h.then ?_ hc
  unfold State.deferredTest
  repeat' first
    | (simp +decide (maxDischargeDepth := 30) only [Changes.refl, Changes.ite, State.declareVacancy_changes])
    | split

theorem State.handling_changes {ps : List Part} {s₀ s : State} {core : State → State} (ha : ∀ s, Changes ps s (core s))
    (h : Changes ps s₀ s) (hc : covers ps ([.switchMarker] ++ Part.readers) = true)
    (hd : covers ps Part.handling = true) : Changes ps s₀ (s.handling core) := by
  unfold State.handling
  dsimp only
  split
  · exact State.deferredTest_changes (State.handle_changes ha h hc) hd
  · exact State.handle_changes ha h hc

theorem State.roomEvidence_changes {ps : List Part} {s₀ s : State} (h : Changes ps s₀ s) (confirming : Bool) (hc :
    covers ps [.queue, .latches, .occupancy] = true) : Changes ps s₀ (s.roomEvidence confirming) := by
  refine h.then ?_ hc
  unfold State.roomEvidence
  repeat' first
    | (simp +decide (maxDischargeDepth := 30) only [Changes.refl, Changes.ite, State.setOccupancy_changes,
        State.latchEvent_changes])
    | split

theorem State.overrunExpired_changes {ps : List Part} {s₀ s : State} (h : Changes ps s₀ s) (hc : covers ps
    Part.handling = true) : Changes ps s₀ (s.overrunExpired) := by
  refine h.then ?_ hc
  unfold State.overrunExpired
  simp +decide (maxDischargeDepth := 30) only [Changes.refl, implies_true, State.handling_changes,
      State.clearOverrun_changes, State.setOccupancy_changes, State.latchEvent_changes]

theorem State.enterOverrun_changes {ps : List Part} {s₀ s : State} (h : Changes ps s₀ s) (r : Session) (hc : covers ps
    [.queue, .latches, .occupancy] = true) : Changes ps s₀ (s.enterOverrun r) := by
  refine h.then ?_ hc
  unfold State.enterOverrun
  simp +decide (maxDischargeDepth := 30) only [Changes.refl, implies_true, true_or, or_true,
      State.latchEvent_changes, State.modRoom_changes]

theorem State.succeed_changes {ps : List Part} {s₀ s : State} (h : Changes ps s₀ s) (r : Session) (c : Successor) (hc
    : covers ps [.queue, .latches, .occupancy] = true) : Changes ps s₀ (s.succeed r c) := by
  refine h.then ?_ hc
  unfold State.succeed
  repeat' first
    | (simp +decide (maxDischargeDepth := 30) only [Changes.refl, State.follow_changes,
        State.latchEvent_changes, State.enterOverrun_changes, State.setOccupancy_changes])
    | split

theorem State.markCurrentPassed_changes {ps : List Part} {s₀ s : State} (h : Changes ps s₀ s) (hc : covers ps
    [.records] = true) : Changes ps s₀ (s.markCurrentPassed) := by
  refine h.then ?_ hc
  unfold State.markCurrentPassed
  repeat' first
    | (simp +decide (maxDischargeDepth := 30) only [Changes.refl, State.modRecordOf_changes])
    | split

theorem State.retire_changes {ps : List Part} {s₀ s : State} (h : Changes ps s₀ s) (atEnd : Bool) (hc : covers ps
    [.queue, .latches, .records, .occupancy, .switchMarker] = true) : Changes ps s₀ (s.retire atEnd) := by
  refine h.then ?_ hc
  unfold State.retire
  dsimp only
  repeat' first
    | (simp +decide (maxDischargeDepth := 30) only [Changes.refl, State.removeSession_changes,
        State.releaseMark_changes, State.succeed_changes, State.latchEvent_changes, State.raiseSwitch_changes,
        State.markCurrentPassed_changes])
    | split

theorem State.deliverA_changes {ps : List Part} {s₀ s : State} (h : Changes ps s₀ s) (id : Nat) (hc : covers ps
    [.queue, .latches, .records, .occupancy, .switchMarker] = true) : Changes ps s₀ (s.deliverA id) := by
  refine h.then ?_ hc
  unfold State.deliverA
  repeat' first
    | (simp +decide (maxDischargeDepth := 30) only [Changes.refl, State.follow_changes, State.retire_changes])
    | split

theorem State.beginSession_changes {ps : List Part} {s₀ s : State} (h : Changes ps s₀ s) (id : Nat) (hc : covers ps
    [.queue, .latches, .switchMarker] = true) : Changes ps s₀ (s.beginSession id) := by
  refine h.then ?_ hc
  unfold State.beginSession
  simp +decide (maxDischargeDepth := 30) only [Changes.refl, State.latchEvent_changes, State.raiseSwitch_changes]

theorem State.deliverB_changes {ps : List Part} {s₀ s : State} (h : Changes ps s₀ s) (id : Nat) (hc : covers ps
    [.queue, .latches, .records, .occupancy, .switchMarker] = true) : Changes ps s₀ (s.deliverB id) := by
  refine h.then ?_ hc
  unfold State.deliverB
  repeat' first
    | (simp +decide (maxDischargeDepth := 30) only [Changes.refl, Changes.ite, State.setOccupancy_changes,
        State.beginSession_changes, State.modRecordOf_changes, State.follow_changes])
    | split

theorem State.deliverG_changes {ps : List Part} {s₀ s : State} (h : Changes ps s₀ s) (id : Nat) (hc : covers ps
    [.queue, .latches, .occupancy] = true) : Changes ps s₀ (s.deliverG id) := by
  refine h.then ?_ hc
  unfold State.deliverG
  simp +decide (maxDischargeDepth := 30) only [Changes.refl, Changes.ite, State.setOccupancy_changes,
      State.latchEvent_changes]

theorem State.deliverE_changes {ps : List Part} {s₀ s : State} (h : Changes ps s₀ s) (id : Nat) (hc : covers ps
    [.queue, .latches, .records, .occupancy, .switchMarker] = true) : Changes ps s₀ (s.deliverE id) := by
  refine h.then ?_ hc
  unfold State.deliverE
  simp +decide (maxDischargeDepth := 30) only [Changes.refl, Changes.ite, State.retire_changes,
      State.removeSession_changes]

theorem State.deliverCore_changes {ps : List Part} {s₀ s : State} (h : Changes ps s₀ s) (p : Point) (id : Nat) (hc :
    covers ps [.queue, .latches, .records, .occupancy, .switchMarker] = true) : Changes ps s₀ (s.deliverCore p id) :=
    by
  refine h.then ?_ hc
  unfold State.deliverCore
  repeat' first
    | (simp +decide (maxDischargeDepth := 30) only [Changes.refl, State.deliverA_changes,
        State.deliverB_changes, State.deliverG_changes, State.deliverE_changes])
    | split

theorem State.deliver_changes {ps : List Part} {s₀ s : State} (h : Changes ps s₀ s) (p : Point) (id : Nat) (hc :
    covers ps ([.records] ++ Part.handling) = true) : Changes ps s₀ (s.deliver p id) := by
  refine h.then ?_ hc
  unfold State.deliver
  simp +decide (maxDischargeDepth := 30) only [Changes.refl, implies_true, State.modRecordOf_changes,
      State.handling_changes, State.deliverCore_changes]

theorem State.derive_changes {ps : List Part} {s₀ s : State} (h : Changes ps s₀ s) (hc : covers ps [.occupancy] =
    true) : Changes ps s₀ (s.derive) := by
  refine h.then ?_ hc
  unfold State.derive
  dsimp only
  repeat' first
    | (simp +decide (maxDischargeDepth := 30) only [Changes.refl, Changes.ite, State.releaseMark_changes,
        State.clearOverrun_changes, State.setOccupancy_changes, State.follow_changes])
    | split

theorem State.markAllAfresh_changes {ps : List Part} {s₀ s : State} (h : Changes ps s₀ s) (hc : covers ps [.records] =
    true) : Changes ps s₀ (s.markAllAfresh) := by
  refine h.then ?_ hc
  unfold State.markAllAfresh
  simp +decide (maxDischargeDepth := 30) only [Changes.refl, State.modRecords_changes]

theorem State.dropEnded_changes {ps : List Part} {s₀ s : State} (h : Changes ps s₀ s) (hc : covers ps [.records] =
    true) : Changes ps s₀ (s.dropEnded) := by
  refine h.then ?_ hc
  unfold State.dropEnded
  simp +decide (maxDischargeDepth := 30) only [Changes.refl, State.modRecords_changes]

/-! ### The Wing Clock and the Session Table -/

theorem State.lateDeliver_changes {ps : List Part} {s₀ s : State} {after : State → State} (ha : ∀ s, Changes ps s (after s))
    (h : Changes ps s₀ s) (p : Point) (id : Nat) (hc : covers ps ([.records] ++ Part.handling) = true) :
    Changes ps s₀ (s.lateDeliver p id after) := by
  unfold State.lateDeliver
  split
  · exact (State.deliver_changes h _ _ hc).trans (ha _)
  · exact h

theorem State.lateDeliverAB_changes {ps : List Part} {s₀ s : State} {after : State → State}
    (ha : ∀ s, Changes ps s (after s)) (h : Changes ps s₀ s) (id : Nat)
    (hc : covers ps ([.records] ++ Part.handling) = true) (hr : covers ps [.records] = true) :
    Changes ps s₀ (s.lateDeliverAB id after) := by
  unfold State.lateDeliverAB
  split
  · exact (State.deliver_changes (State.modRecordOf_changes h _ _ hr) _ _ hc).trans (ha _)
  · exact State.lateDeliver_changes ha (State.lateDeliver_changes ha h _ _ hc) _ _ hc

theorem armLevels_changes : ∀ (n : Nat) {ps : List Part} {s₀ s : State}, Changes ps s₀ s →
    covers ps ([.records] ++ Part.handling) = true → Changes ps s₀ (armLevels n s)
  | 0, _, _, _, h, _ => h
  | n + 1, ps, s₀, s, h, hc => by
    refine h.then ?_ hc
    have ih := @armLevels_changes n
    unfold armLevels
    repeat' first
      | (simp +decide (maxDischargeDepth := 30) only [Changes.refl, implies_true, ih, State.lateDeliver_changes,
          State.lateDeliverAB_changes])
      | split

theorem State.armNext_changes {ps : List Part} {s₀ s : State} (h : Changes ps s₀ s) (hc : covers ps ([.records] ++
    Part.handling) = true) : Changes ps s₀ (s.armNext) := by
  refine h.then ?_ hc
  unfold State.armNext
  simp +decide (maxDischargeDepth := 30) only [Changes.refl, armLevels_changes]

theorem takeTurns_changes : ∀ (n : Nat) {ps : List Part} {s₀ s : State}, Changes ps s₀ s →
    covers ps ([.records] ++ Part.handling) = true → Changes ps s₀ (takeTurns n s)
  | 0, _, _, _, h, _ => h
  | n + 1, ps, s₀, s, h, hc => by
    refine h.then ?_ hc
    have ih := @takeTurns_changes n
    unfold takeTurns
    repeat' first
      | (simp +decide (maxDischargeDepth := 30) only [Changes.refl, ih, State.armNext_changes,
          State.deliver_changes])
      | split

theorem State.takePoints_changes {ps : List Part} {s₀ s : State} (h : Changes ps s₀ s) (hc : covers ps ([.records] ++
    Part.handling) = true) : Changes ps s₀ (s.takePoints) := by
  refine h.then ?_ hc
  unfold State.takePoints
  simp +decide (maxDischargeDepth := 30) only [Changes.refl, Changes.ite, takeTurns_changes]

theorem State.setMinute_changes {ps : List Part} {s₀ s : State} (h : Changes ps s₀ s) (m : Nat) (hc : covers ps
    [.clock] = true) : Changes ps s₀ (s.setMinute m) := by
  refine h.then ?_ hc
  unfold State.setMinute
  simp +decide (maxDischargeDepth := 30) only [Changes.refl, State.modClock_changes]

theorem State.reachMinute_changes {ps : List Part} {s₀ s : State} (h : Changes ps s₀ s) (m : Nat) (hc : covers ps
    ([.clock, .records] ++ Part.handling) = true) : Changes ps s₀ (s.reachMinute m) := by
  refine h.then ?_ hc
  unfold State.reachMinute
  simp +decide (maxDischargeDepth := 30) only [Changes.refl, State.setMinute_changes, State.takePoints_changes,
      State.expireRecords_changes]

theorem State.reachMinutes_changes : ∀ (n : Nat) {ps : List Part} {s₀ s : State}, Changes ps s₀ s →
    covers ps ([.clock, .records] ++ Part.handling) = true → Changes ps s₀ (State.reachMinutes n s)
  | 0, _, _, _, h, _ => h
  | n + 1, ps, s₀, s, h, hc => by
    refine h.then ?_ hc
    have ih := @State.reachMinutes_changes n
    unfold State.reachMinutes
    simp +decide (maxDischargeDepth := 30) only [Changes.refl, ih, State.reachMinute_changes]

theorem State.advanceMinute_changes {ps : List Part} {s₀ s : State} (h : Changes ps s₀ s) (hc : covers ps ([.clock,
    .records] ++ Part.handling) = true) : Changes ps s₀ (s.advanceMinute) := by
  refine h.then ?_ hc
  unfold State.advanceMinute
  simp +decide (maxDischargeDepth := 30) only [Changes.refl, Changes.ite, State.reachMinute_changes,
      State.setMinute_changes]

theorem State.firstValidTime_changes {ps : List Part} {s₀ s : State} (h : Changes ps s₀ s) (m : Nat) (hc : covers ps
    ([.clock, .records] ++ Part.handling) = true) : Changes ps s₀ (s.firstValidTime m) := by
  refine h.then ?_ hc
  unfold State.firstValidTime
  simp +decide (maxDischargeDepth := 30) only [Changes.refl, Changes.ite, implies_true, State.setMinute_changes,
      State.dropEnded_changes, State.markAllAfresh_changes, State.handling_changes, State.derive_changes,
      State.expireRecords_changes, State.modClock_changes]

theorem State.setTime_changes {ps : List Part} {s₀ s : State} (h : Changes ps s₀ s) (minute second : Nat) (hc : covers
    ps ([.clock, .records] ++ Part.handling) = true) : Changes ps s₀ (s.setTime minute second) := by
  refine h.then ?_ hc
  unfold State.setTime
  simp +decide (maxDischargeDepth := 30) only [Changes.refl, Changes.ite, State.firstValidTime_changes,
      State.reachMinutes_changes, State.setMinute_changes, State.modClock_changes]

theorem State.refuseEntry_changes {ps : List Part} {s₀ s : State} (h : Changes ps s₀ s) (id : Nat) (reason :
    RefuseReason) (hc : covers ps [.queue, .latches] = true) : Changes ps s₀ (s.refuseEntry id reason) := by
  refine h.then ?_ hc
  unfold State.refuseEntry
  simp +decide (maxDischargeDepth := 30) only [Changes.refl, State.latchEvent_changes]

theorem State.countMerged_changes {ps : List Part} {s₀ s : State} (h : Changes ps s₀ s) (hc : covers ps [.transfer] =
    true) : Changes ps s₀ (s.countMerged) := by
  refine h.then ?_ hc
  unfold State.countMerged
  simp +decide (maxDischargeDepth := 30) only [Changes.refl, implies_true, true_or, or_true, State.modSessions_changes]

theorem State.applyUpdate_changes {ps : List Part} {s₀ s : State} (h : Changes ps s₀ s) (r e : Session) (hc : covers
    ps ([.records] ++ Part.readers) = true) : Changes ps s₀ (s.applyUpdate r e) := by
  refine h.then ?_ hc
  unfold State.applyUpdate
  simp +decide (maxDischargeDepth := 30) only [Changes.refl, implies_true, true_or, or_true, and_self,
      State.modRecordOf_changes, State.evaluate_changes, State.relightAndShade_changes,
      State.modOverrides_changes]

theorem State.updateRunning_changes {ps : List Part} {s₀ s : State} (h : Changes ps s₀ s) (r e : Session) (hc : covers
    ps ([.records, .transfer] ++ Part.handling) = true) : Changes ps s₀ (s.updateRunning r e) := by
  refine h.then ?_ hc
  unfold State.updateRunning
  simp +decide (maxDischargeDepth := 30) only [Changes.refl, Changes.ite, State.refuseEntry_changes,
      State.applyUpdate_changes, State.countMerged_changes, State.expireRecords_changes, State.deliver_changes,
      State.armNext_changes]

theorem State.placeSession_changes {ps : List Part} {s₀ s : State} (h : Changes ps s₀ s) (e : Session) (hc : covers ps
    [.records] = true) : Changes ps s₀ (s.placeSession e) := by
  refine h.then ?_ hc
  unfold State.placeSession
  simp +decide (maxDischargeDepth := 30) only [Changes.refl, State.modRecords_changes]

theorem State.remark_changes {ps : List Part} {s₀ s : State} (h : Changes ps s₀ s) (hc : covers ps [.records,
    .occupancy] = true) : Changes ps s₀ (s.remark) := by
  refine h.then ?_ hc
  unfold State.remark
  repeat' first
    | (simp +decide (maxDischargeDepth := 30) only [Changes.refl, Changes.ite, State.releaseMark_changes,
        State.setOccupancy_changes, State.modRecordOf_changes, State.follow_changes])
    | split

theorem State.takeLate_changes {ps : List Part} {s₀ s : State} (h : Changes ps s₀ s) (p : Point) (id : Nat) (hc : covers
    ps [.queue, .latches, .records, .occupancy, .switchMarker] = true) : Changes ps s₀ (s.takeLate p id) := by
  refine h.then ?_ hc
  unfold State.takeLate
  simp +decide (maxDischargeDepth := 30) only [Changes.refl, Changes.ite, State.modRecordOf_changes,
      State.deliverCore_changes]

theorem State.remarkCore_changes {ps : List Part} {s₀ s : State} (h : Changes ps s₀ s) (hc : covers ps [.queue, .latches,
    .records, .occupancy, .switchMarker] = true) : Changes ps s₀ (s.remarkCore) := by
  refine h.then ?_ hc
  unfold State.remarkCore
  dsimp only
  repeat' first
    | (simp +decide (maxDischargeDepth := 30) only [Changes.refl, State.remark_changes, State.takeLate_changes])
    | split

theorem State.reevaluateMark_changes {ps : List Part} {s₀ s : State} (h : Changes ps s₀ s) (hc : covers ps ([.records]
    ++ Part.handling) = true) : Changes ps s₀ (s.reevaluateMark) := by
  refine h.then ?_ hc
  unfold State.reevaluateMark
  simp +decide (maxDischargeDepth := 30) only [Changes.refl, implies_true, State.handling_changes,
      State.remarkCore_changes, State.evaluate_changes, State.relightAndShade_changes]

theorem State.placeNew_changes {ps : List Part} {s₀ s : State} (h : Changes ps s₀ s) (e : Session) (hc : covers ps
    [.queue, .latches, .records, .transfer] = true) : Changes ps s₀ (s.placeNew e) := by
  refine h.then ?_ hc
  unfold State.placeNew
  repeat' first
    | (simp +decide (maxDischargeDepth := 30) only [Changes.refl, State.refuseEntry_changes,
        State.placeSession_changes, State.countMerged_changes])
    | split

theorem State.mergeNew_changes {ps : List Part} {s₀ s : State} (h : Changes ps s₀ s) (e : Session) (hc : covers ps
    ([.records, .transfer] ++ Part.handling) = true) : Changes ps s₀ (s.mergeNew e) := by
  refine h.then ?_ hc
  unfold State.mergeNew
  simp +decide (maxDischargeDepth := 30) only [Changes.refl, Changes.ite, State.removeSession_changes,
      State.placeNew_changes, State.reevaluateMark_changes, State.armNext_changes]

theorem State.mergeEntry_changes {ps : List Part} {s₀ s : State} (h : Changes ps s₀ s) (f : TtEntryFields) (hc :
    covers ps ([.records, .transfer] ++ Part.handling) = true) : Changes ps s₀ (s.mergeEntry f) := by
  refine h.then ?_ hc
  unfold State.mergeEntry
  repeat' first
    | (simp +decide (maxDischargeDepth := 30) only [Changes.refl, Changes.ite, State.refuseEntry_changes,
        State.updateRunning_changes, State.mergeNew_changes])
    | split

theorem State.cancelSession_changes {ps : List Part} {s₀ s : State} (h : Changes ps s₀ s) (id : Nat) (hc : covers ps
    ([.records] ++ Part.handling) = true) : Changes ps s₀ (s.cancelSession id) := by
  refine h.then ?_ hc
  unfold State.cancelSession
  simp +decide (maxDischargeDepth := 30) only [Changes.refl, Changes.ite, implies_true, State.handling_changes,
      State.retire_changes, State.armNext_changes, State.removeSession_changes]

theorem State.closeTransfer_changes {ps : List Part} {s₀ s : State} (h : Changes ps s₀ s) (reason : DoneReason) (hc :
    covers ps [.queue, .latches, .transfer] = true) : Changes ps s₀ (s.closeTransfer reason) := by
  refine h.then ?_ hc
  unfold State.closeTransfer
  repeat' first
    | (simp +decide (maxDischargeDepth := 30) only [Changes.refl, implies_true, true_or, or_true,
        State.latchEvent_changes, State.modSessions_changes])
    | split

theorem State.replaceFuture_changes {ps : List Part} {s₀ s : State} (h : Changes ps s₀ s) (hc : covers ps [.records] =
    true) : Changes ps s₀ (s.replaceFuture) := by
  refine h.then ?_ hc
  unfold State.replaceFuture
  simp +decide (maxDischargeDepth := 30) only [Changes.refl, State.modRecords_changes]

theorem State.beginTransfer_changes {ps : List Part} {s₀ s : State} (h : Changes ps s₀ s) (source : Nat) (f :
    TtBeginFields) (hc : covers ps ([.records, .transfer] ++ Part.handling) = true) : Changes ps s₀ (s.beginTransfer
    source f) := by
  refine h.then ?_ hc
  unfold State.beginTransfer
  simp +decide (maxDischargeDepth := 30) only [Changes.refl, Changes.ite, implies_true, true_or, or_true,
      State.closeTransfer_changes, State.replaceFuture_changes, State.armNext_changes,
      State.modSessions_changes]

theorem State.countEntry_changes {ps : List Part} {s₀ s : State} (h : Changes ps s₀ s) (hc : covers ps [.transfer] =
    true) : Changes ps s₀ (s.countEntry) := by
  refine h.then ?_ hc
  unfold State.countEntry
  simp +decide (maxDischargeDepth := 30) only [Changes.refl, implies_true, true_or, or_true, State.modSessions_changes]

theorem State.finishTransfer_changes {ps : List Part} {s₀ s : State} (h : Changes ps s₀ s) (hc : covers ps [.queue,
    .latches, .transfer] = true) : Changes ps s₀ (s.finishTransfer) := by
  refine h.then ?_ hc
  unfold State.finishTransfer
  repeat' first
    | (simp +decide (maxDischargeDepth := 30) only [Changes.refl, Changes.ite, State.closeTransfer_changes])
    | split

theorem State.transferEntry_changes {ps : List Part} {s₀ s : State} (h : Changes ps s₀ s) (source : Nat) (f :
    TtEntryFields) (hc : covers ps ([.records, .transfer] ++ Part.handling) = true) : Changes ps s₀ (s.transferEntry
    source f) := by
  refine h.then ?_ hc
  unfold State.transferEntry
  repeat' first
    | (simp +decide (maxDischargeDepth := 30) only [Changes.refl, Changes.ite, State.closeTransfer_changes,
        State.countEntry_changes, State.mergeEntry_changes, State.finishTransfer_changes])
    | split

/-! ### The Evidence Unit -/

theorem State.recordEvidence_changes {ps : List Part} {s₀ s : State} (h : Changes ps s₀ s) (k : EvidenceKind) (hc :
    covers ps [.history] = true) : Changes ps s₀ (s.recordEvidence k) := by
  refine h.then ?_ hc
  unfold State.recordEvidence
  simp +decide (maxDischargeDepth := 30) only [Changes.refl, implies_true, true_or, or_true, and_self,
      State.modEvidence_changes]

theorem State.reportEvidence_changes {ps : List Part} {s₀ s : State} (h : Changes ps s₀ s) (hc : covers ps [.attempt,
    .queue, .pairData] = true) : Changes ps s₀ (s.reportEvidence) := by
  refine h.then ?_ hc
  unfold State.reportEvidence
  simp +decide (maxDischargeDepth := 30) only [Changes.refl, implies_true, true_or, or_true, and_self,
      State.queueReport_changes, State.modLink_changes, State.modPair_changes]

theorem State.evidenceEvent_changes {ps : List Part} {s₀ s : State} (h : Changes ps s₀ s) (k : EvidenceKind) (hc :
    covers ps ([.attempt] ++ Part.handling) = true) : Changes ps s₀ (s.evidenceEvent k) := by
  refine h.then ?_ hc
  unfold State.evidenceEvent
  simp +decide (maxDischargeDepth := 30) only [Changes.refl, Changes.ite, implies_true,
      State.recordEvidence_changes, State.handling_changes, State.roomEvidence_changes,
      State.reportEvidence_changes]

theorem State.setWindow_changes {ps : List Part} {s₀ s : State} (h : Changes ps s₀ s) (w : Option Window) (hc : covers
    ps [.door] = true) : Changes ps s₀ (s.setWindow w) := by
  refine h.then ?_ hc
  unfold State.setWindow
  simp +decide (maxDischargeDepth := 30) only [Changes.refl, implies_true, true_or, or_true, and_self,
      State.modEvidence_changes]

theorem State.pairedBreak_changes {ps : List Part} {s₀ s : State} (h : Changes ps s₀ s) (b : Beam) (hc : covers ps
    ([.attempt, .door] ++ Part.handling) = true) : Changes ps s₀ (s.pairedBreak b) := by
  refine h.then ?_ hc
  unfold State.pairedBreak
  repeat' first
    | (simp +decide (maxDischargeDepth := 30) only [Changes.refl, State.setWindow_changes,
        State.setHeadcount_changes, State.evidenceEvent_changes])
    | split

theorem State.takeBreak_changes {ps : List Part} {s₀ s : State} (h : Changes ps s₀ s) (b : Beam) (hc : covers ps
    ([.attempt, .door] ++ Part.handling) = true) : Changes ps s₀ (s.takeBreak b) := by
  refine h.then ?_ hc
  unfold State.takeBreak
  repeat' first
    | (simp +decide (maxDischargeDepth := 30) only [Changes.refl, Changes.ite, State.evidenceEvent_changes,
        State.setWindow_changes, State.pairedBreak_changes])
    | split

theorem State.setStuckDue_changes {ps : List Part} {s₀ s : State} (h : Changes ps s₀ s) (b : Beam) (due : Option Nat)
    (hc : covers ps [.door] = true) : Changes ps s₀ (s.setStuckDue b due) := by
  refine h.then ?_ hc
  unfold State.setStuckDue
  simp +decide (maxDischargeDepth := 30) only [Changes.refl, implies_true, true_or, or_true, and_self,
      State.modEvidence_changes]

theorem State.setStuckMark_changes {ps : List Part} {s₀ s : State} (h : Changes ps s₀ s) (b : Beam) (m : Bool) (hc :
    covers ps [.door] = true) : Changes ps s₀ (s.setStuckMark b m) := by
  refine h.then ?_ hc
  unfold State.setStuckMark
  simp +decide (maxDischargeDepth := 30) only [Changes.refl, implies_true, true_or, or_true, and_self,
      State.modEvidence_changes]

theorem State.setBeam_changes {ps : List Part} {s₀ s : State} (h : Changes ps s₀ s) (b : Beam) (broken : Bool) (hc :
    covers ps [.pins] = true) : Changes ps s₀ (s.setBeam b broken) := by
  refine h.then ?_ hc
  unfold State.setBeam
  simp +decide (maxDischargeDepth := 30) only [Changes.refl, State.modPins_changes]

theorem State.declareDoorFault_changes {ps : List Part} {s₀ s : State} (h : Changes ps s₀ s) (hc : covers ps
    ([.attempt, .door] ++ Part.handling) = true) : Changes ps s₀ (s.declareDoorFault) := by
  refine h.then ?_ hc
  unfold State.declareDoorFault
  simp +decide (maxDischargeDepth := 30) only [Changes.refl, Changes.ite, State.latchEvent_changes,
      State.setWindow_changes, State.evidenceEvent_changes, State.evaluate_changes]

theorem State.markStuck_changes {ps : List Part} {s₀ s : State} (h : Changes ps s₀ s) (b : Beam) (hc : covers ps
    ([.attempt, .door] ++ Part.handling) = true) : Changes ps s₀ (s.markStuck b) := by
  refine h.then ?_ hc
  unfold State.markStuck
  simp +decide (maxDischargeDepth := 30) only [Changes.refl, Changes.ite, State.setStuckDue_changes,
      State.setStuckMark_changes, State.declareDoorFault_changes]

theorem State.releaseBeam_changes {ps : List Part} {s₀ s : State} (h : Changes ps s₀ s) (b : Beam) (hc : covers ps
    [.damper, .queue, .door, .airRecord, .grant] = true) : Changes ps s₀ (s.releaseBeam b) := by
  refine h.then ?_ hc
  unfold State.releaseBeam
  simp +decide (maxDischargeDepth := 30) only [Changes.refl, Changes.ite, State.setStuckDue_changes,
      State.setStuckMark_changes, State.evaluate_changes]

theorem State.passHold_changes {ps : List Part} {s₀ s : State} (h : Changes ps s₀ s) (hc : covers ps Part.handling =
    true) : Changes ps s₀ (s.passHold) := by
  refine h.then ?_ hc
  unfold State.passHold
  simp +decide (maxDischargeDepth := 30) only [Changes.refl, Changes.ite, implies_true, true_or, or_true,
      and_self, State.declareVacancy_changes, State.modEvidence_changes]

theorem State.passTriple_changes {ps : List Part} {s₀ s : State} (h : Changes ps s₀ s) (hc : covers ps Part.handling =
    true) : Changes ps s₀ (s.passTriple) := by
  refine h.then ?_ hc
  unfold State.passTriple
  simp +decide (maxDischargeDepth := 30) only [Changes.refl, Changes.ite, implies_true, true_or, or_true,
      and_self, State.declareVacancy_changes, State.modEvidence_changes]

theorem State.takeCo2_changes {ps : List Part} {s₀ s : State} (h : Changes ps s₀ s) (counts : Nat) (hc : covers ps
    [.damper, .queue, .latches, .samples, .airRecord, .grant] = true) : Changes ps s₀ (s.takeCo2 counts) := by
  refine h.then ?_ hc
  unfold State.takeCo2
  simp +decide (maxDischargeDepth := 30) only [Changes.refl, Changes.ite, implies_true, true_or, or_true,
      and_self, State.evaluate_changes, State.latchEvent_changes, State.modEvidence_changes]

theorem State.latchIfSet_changes {ps : List Part} {s₀ s : State} (h : Changes ps s₀ s) (before after : Bool) (i :
    SensorInput) (hc : covers ps [.queue, .latches] = true) : Changes ps s₀ (s.latchIfSet before after i) := by
  refine h.then ?_ hc
  unfold State.latchIfSet
  simp +decide (maxDischargeDepth := 30) only [Changes.refl, Changes.ite, State.latchEvent_changes]

theorem State.takePhoto_changes {ps : List Part} {s₀ s : State} (h : Changes ps s₀ s) (counts : Nat) (hc : covers ps
    [.dims, .queue, .latches, .samples, .light] = true) : Changes ps s₀ (s.takePhoto counts) := by
  refine h.then ?_ hc
  unfold State.takePhoto
  simp +decide (maxDischargeDepth := 30) only [Changes.refl, implies_true, true_or, or_true, and_self,
      State.latchIfSet_changes, State.loopStep_changes, State.modEvidence_changes]

theorem State.setGlare_changes {ps : List Part} {s₀ s : State} (h : Changes ps s₀ s) (g : Bool) (dwell : Option Nat)
    (hc : covers ps [.glare] = true) : Changes ps s₀ (s.setGlare g dwell) := by
  refine h.then ?_ hc
  unfold State.setGlare
  simp +decide (maxDischargeDepth := 30) only [Changes.refl, implies_true, true_or, or_true, State.modShade_changes]

theorem State.glareReading_changes {ps : List Part} {s₀ s : State} (h : Changes ps s₀ s) (hc : covers ps [.motor,
    .queue, .latches, .glare, .held, .drive, .handed] = true) : Changes ps s₀ (s.glareReading) := by
  refine h.then ?_ hc
  unfold State.glareReading
  dsimp only
  repeat' first
    | (simp +decide (maxDischargeDepth := 30) only [Changes.refl, Changes.ite, State.setGlare_changes,
        State.reshade_changes])
    | split

theorem State.takeIrradiance_changes {ps : List Part} {s₀ s : State} (h : Changes ps s₀ s) (counts : Nat) (hc : covers
    ps [.motor, .queue, .latches, .samples, .glare, .held, .drive, .handed] = true) : Changes ps s₀ (s.takeIrradiance
    counts) := by
  refine h.then ?_ hc
  unfold State.takeIrradiance
  simp +decide (maxDischargeDepth := 30) only [Changes.refl, implies_true, true_or, or_true, and_self,
      State.latchIfSet_changes, State.glareReading_changes, State.modEvidence_changes]

theorem State.clearGlare_changes {ps : List Part} {s₀ s : State} (h : Changes ps s₀ s) (hc : covers ps [.motor,
    .queue, .latches, .glare, .held, .drive, .handed] = true) : Changes ps s₀ (s.clearGlare) := by
  refine h.then ?_ hc
  unfold State.clearGlare
  simp +decide (maxDischargeDepth := 30) only [Changes.refl, State.setGlare_changes, State.reshade_changes]

/-! ### The Pair Unit -/

theorem State.writePartnerMax_changes {ps : List Part} {s₀ s : State} (h : Changes ps s₀ s) (m : Nat) (hc : covers ps
    [.damper, .queue, .peers, .airRecord, .grant] = true) : Changes ps s₀ (s.writePartnerMax m) := by
  refine h.then ?_ hc
  unfold State.writePartnerMax
  simp +decide (maxDischargeDepth := 30) only [Changes.refl, State.withPeers_changes, State.evaluate_changes]

theorem State.enterOffering_changes {ps : List Part} {s₀ s : State} (h : Changes ps s₀ s) (hc : covers ps [.queue,
    .pairState, .offers] = true) : Changes ps s₀ (s.enterOffering) := by
  refine h.then ?_ hc
  unfold State.enterOffering
  simp +decide (maxDischargeDepth := 30) only [Changes.refl, implies_true, true_or, or_true, and_self,
      State.queuePairCtrl_changes, State.modPair_changes]

theorem State.offerAgain_changes {ps : List Part} {s₀ s : State} (h : Changes ps s₀ s) (hc : covers ps [.queue,
    .offers] = true) : Changes ps s₀ (s.offerAgain) := by
  refine h.then ?_ hc
  unfold State.offerAgain
  repeat' first
    | (simp +decide (maxDischargeDepth := 30) only [Changes.refl, implies_true, true_or, or_true, and_self,
        State.queuePairCtrl_changes, State.modPair_changes])
    | split

theorem State.restartLiveness_changes {ps : List Part} {s₀ s : State} (h : Changes ps s₀ s) (hc : covers ps
    [.pairTimers] = true) : Changes ps s₀ (s.restartLiveness) := by
  refine h.then ?_ hc
  unfold State.restartLiveness
  simp +decide (maxDischargeDepth := 30) only [Changes.refl, implies_true, true_or, or_true, and_self,
      State.modPair_changes]

theorem State.mismatch_changes {ps : List Part} {s₀ s : State} (h : Changes ps s₀ s) (hc : covers ps [.queue,
    .latches] = true) : Changes ps s₀ (s.mismatch) := by
  refine h.then ?_ hc
  unfold State.mismatch
  simp +decide (maxDischargeDepth := 30) only [Changes.refl, State.latchEvent_changes]

theorem State.takeRole_changes {ps : List Part} {s₀ s : State} (h : Changes ps s₀ s) (r : PairState) (hc : covers ps
    [.pairState, .offers, .pairTimers] = true) : Changes ps s₀ (s.takeRole r) := by
  refine h.then ?_ hc
  unfold State.takeRole
  simp +decide (maxDischargeDepth := 30) only [Changes.refl, implies_true, true_or, or_true, and_self,
      State.modPair_changes]

theorem State.setFollowerCount_changes {ps : List Part} {s₀ s : State} (h : Changes ps s₀ s) (n : Nat) (hc : covers ps
    [.pairData] = true) : Changes ps s₀ (s.setFollowerCount n) := by
  refine h.then ?_ hc
  unfold State.setFollowerCount
  simp +decide (maxDischargeDepth := 30) only [Changes.refl, implies_true, true_or, or_true, and_self,
      State.formCombined_changes, State.modPair_changes]

theorem State.leadItems_changes {ps : List Part} {s₀ s : State} (h : Changes ps s₀ s) (headcount : Nat) (hc : covers
    ps [.pairData] = true) : Changes ps s₀ (s.leadItems headcount) := by
  refine h.then ?_ hc
  unfold State.leadItems
  simp +decide (maxDischargeDepth := 30) only [Changes.refl, implies_true, true_or, or_true, and_self,
      State.setFollowerCount_changes, State.modPair_changes]

theorem State.followItems_changes {ps : List Part} {s₀ s : State} (h : Changes ps s₀ s) (m : Mirror) (hc : covers ps
    [.occupancy, .pairData, .mirror] = true) : Changes ps s₀ (s.followItems m) := by
  refine h.then ?_ hc
  unfold State.followItems
  simp +decide (maxDischargeDepth := 30) only [Changes.refl, implies_true, true_or, or_true, and_self,
      State.modPair_changes, State.modRoom_changes]

theorem State.enterRole_changes {ps : List Part} {s₀ s : State} (h : Changes ps s₀ s) (headcount : Nat) (hc : covers
    ps ([.pairState, .offers, .pairTimers, .mirror] ++ Part.handling) = true) : Changes ps s₀ (s.enterRole headcount)
    := by
  refine h.then ?_ hc
  unfold State.enterRole
  simp +decide (maxDischargeDepth := 30) only [Changes.refl, Changes.ite, implies_true, State.takeRole_changes,
      State.leadItems_changes, State.handling_changes, State.followItems_changes, State.evaluate_changes,
      State.relightAndShade_changes, State.queueReport_changes]

theorem State.resetRole_changes {ps : List Part} {s₀ s : State} (h : Changes ps s₀ s) (r : PairState) (hc : covers ps
    [.pairState, .pairTimers, .pairData] = true) : Changes ps s₀ (s.resetRole r) := by
  refine h.then ?_ hc
  unfold State.resetRole
  simp +decide (maxDischargeDepth := 30) only [Changes.refl, implies_true, true_or, or_true, and_self,
      State.modPair_changes]

theorem State.deriveOwn_changes {ps : List Part} {s₀ s : State} (h : Changes ps s₀ s) (hc : covers ps [.records,
    .occupancy] = true) : Changes ps s₀ (s.deriveOwn) := by
  refine h.then ?_ hc
  unfold State.deriveOwn
  simp +decide (maxDischargeDepth := 30) only [Changes.refl, implies_true, true_or, or_true, and_self,
      State.markAllAfresh_changes, State.derive_changes, State.modRoom_changes]

theorem State.dropPartnerRecords_changes {ps : List Part} {s₀ s : State} (h : Changes ps s₀ s) (hc : covers ps
    Part.readers = true) : Changes ps s₀ (s.dropPartnerRecords) := by
  refine h.then ?_ hc
  unfold State.dropPartnerRecords
  simp +decide (maxDischargeDepth := 30) only [Changes.refl, State.removeWhere_changes]

theorem State.exitRole_changes {ps : List Part} {s₀ s : State} (h : Changes ps s₀ s) (r : PairState) (hc : covers ps
    ([.attempt, .records, .pairState, .pairTimers] ++ Part.handling) = true) : Changes ps s₀ (s.exitRole r) := by
  refine h.then ?_ hc
  unfold State.exitRole
  simp +decide (maxDischargeDepth := 30) only [Changes.refl, Changes.ite, implies_true,
      State.removeReport_changes, State.handling_changes, State.resetRole_changes, State.deriveOwn_changes,
      State.dropPartnerRecords_changes, State.evaluate_changes, State.relightAndShade_changes]

theorem State.becomeSingle_changes {ps : List Part} {s₀ s : State} (h : Changes ps s₀ s) (hc : covers ps ([.attempt,
    .records, .pairState, .offers, .pairTimers] ++ Part.handling) = true) : Changes ps s₀ (s.becomeSingle) := by
  refine h.then ?_ hc
  unfold State.becomeSingle
  simp +decide (maxDischargeDepth := 30) only [Changes.refl, Changes.ite, implies_true, true_or, or_true,
      and_self, State.exitRole_changes, State.modPair_changes]

theorem State.partitionClosed_changes {ps : List Part} {s₀ s : State} (h : Changes ps s₀ s) (hc : covers ps
    ([.attempt, .records, .pairState, .offers, .pairTimers] ++ Part.handling) = true) : Changes ps s₀
    (s.partitionClosed) := by
  refine h.then ?_ hc
  unfold State.partitionClosed
  simp +decide (maxDischargeDepth := 30) only [Changes.refl, Changes.ite, State.queuePairCtrl_changes,
      State.becomeSingle_changes]

theorem State.partitionOpened_changes {ps : List Part} {s₀ s : State} (h : Changes ps s₀ s) (hc : covers ps [.queue,
    .pairState, .offers] = true) : Changes ps s₀ (s.partitionOpened) := by
  refine h.then ?_ hc
  unfold State.partitionOpened
  simp +decide (maxDischargeDepth := 30) only [Changes.refl, Changes.ite, State.enterOffering_changes]

theorem State.settlePartition_changes {ps : List Part} {s₀ s : State} (h : Changes ps s₀ s) (hc : covers ps
    ([.attempt, .records, .pairState, .partition, .offers, .pairTimers] ++ Part.handling) = true) : Changes ps s₀
    (s.settlePartition) := by
  refine h.then ?_ hc
  unfold State.settlePartition
  simp +decide (maxDischargeDepth := 30) only [Changes.refl, Changes.ite, implies_true, true_or, or_true,
      and_self, State.partitionOpened_changes, State.partitionClosed_changes, State.modPair_changes]

theorem State.takeOffer_changes {ps : List Part} {s₀ s : State} (h : Changes ps s₀ s) (headcount : Nat) (hc : covers
    ps ([.pairState, .offers, .pairTimers, .mirror] ++ Part.handling) = true) : Changes ps s₀ (s.takeOffer headcount)
    := by
  refine h.then ?_ hc
  unfold State.takeOffer
  repeat' first
    | (simp +decide (maxDischargeDepth := 30) only [Changes.refl, Changes.ite, State.queuePairCtrl_changes,
        State.restartLiveness_changes, State.setFollowerCount_changes, State.evaluate_changes,
        State.enterRole_changes, State.mismatch_changes])
    | split

theorem State.takeAccept_changes {ps : List Part} {s₀ s : State} (h : Changes ps s₀ s) (hc : covers ps ([.pairState,
    .offers, .pairTimers, .mirror] ++ Part.handling) = true) : Changes ps s₀ (s.takeAccept) := by
  refine h.then ?_ hc
  unfold State.takeAccept
  repeat' first
    | (simp +decide (maxDischargeDepth := 30) only [Changes.refl, State.enterRole_changes,
        State.restartLiveness_changes])
    | split

theorem State.takeRefuse_changes {ps : List Part} {s₀ s : State} (h : Changes ps s₀ s) (hc : covers ps [.queue,
    .latches] = true) : Changes ps s₀ (s.takeRefuse) := by
  refine h.then ?_ hc
  unfold State.takeRefuse
  repeat' first
    | (simp +decide (maxDischargeDepth := 30) only [Changes.refl, State.mismatch_changes])
    | split

theorem State.takeLeave_changes {ps : List Part} {s₀ s : State} (h : Changes ps s₀ s) (hc : covers ps ([.attempt,
    .records, .pairState, .offers, .pairTimers] ++ Part.handling) = true) : Changes ps s₀ (s.takeLeave) := by
  refine h.then ?_ hc
  unfold State.takeLeave
  dsimp only
  repeat' first
    | (simp +decide (maxDischargeDepth := 30) only [Changes.refl, Changes.ite, State.becomeSingle_changes,
        State.enterOffering_changes])
    | split

theorem State.takeForwarded_changes {ps : List Part} {s₀ s : State} (h : Changes ps s₀ s) (f : Forwarded) (hc : covers
    ps Part.readers = true) : Changes ps s₀ (s.takeForwarded f) := by
  refine h.then ?_ hc
  unfold State.takeForwarded
  simp +decide (maxDischargeDepth := 30) only [Changes.refl, State.removeStale_changes, State.takeRequest_changes]

theorem State.followerRequest_changes {ps : List Part} {s₀ s : State} (h : Changes ps s₀ s) (f : FollowFields) (hc :
    covers ps ([.pairData] ++ Part.readers) = true) : Changes ps s₀ (s.followerRequest f) := by
  refine h.then ?_ hc
  unfold State.followerRequest
  repeat' first
    | (simp +decide (maxDischargeDepth := 30) only [Changes.refl, Changes.ite, implies_true, true_or, or_true, and_self,
        State.takeForwarded_changes, State.modPair_changes])
    | split

theorem State.takeFollowFrame_changes {ps : List Part} {s₀ s : State} (h : Changes ps s₀ s) (f : FollowFields) (hc :
    covers ps ([.attempt, .pairTimers] ++ Part.handling) = true) : Changes ps s₀ (s.takeFollowFrame f) := by
  refine h.then ?_ hc
  unfold State.takeFollowFrame
  simp +decide (maxDischargeDepth := 30) only [Changes.refl, Changes.ite, State.restartLiveness_changes,
      State.setFollowerCount_changes, State.evaluate_changes, State.evidenceEvent_changes,
      State.followerRequest_changes]

theorem State.mirrorLead_changes {ps : List Part} {s₀ s : State} (h : Changes ps s₀ s) (f : LeadFields) (hc : covers
    ps [.occupancy, .switchMarker, .mirror] = true) : Changes ps s₀ (s.mirrorLead f) := by
  refine h.then ?_ hc
  unfold State.mirrorLead
  simp +decide (maxDischargeDepth := 30) only [Changes.refl, Changes.ite, implies_true, true_or, or_true,
      and_self, State.setOccupancy_changes, State.raiseSwitch_changes, State.modPair_changes,
      State.modRoom_changes]

theorem State.takeLeadFrame_changes {ps : List Part} {s₀ s : State} (h : Changes ps s₀ s) (f : LeadFields) (hc :
    covers ps ([.pairTimers, .mirror] ++ Part.handling) = true) : Changes ps s₀ (s.takeLeadFrame f) := by
  refine h.then ?_ hc
  unfold State.takeLeadFrame
  simp +decide (maxDischargeDepth := 30) only [Changes.refl, implies_true, true_or, or_true, and_self,
      State.restartLiveness_changes, State.evaluate_changes, State.handling_changes, State.mirrorLead_changes,
      State.relightAndShade_changes, State.modPair_changes]

theorem State.takePairState_changes {ps : List Part} {s₀ s : State} (h : Changes ps s₀ s) (payload : List Byte) (hc :
    covers ps ([.attempt, .pairTimers, .mirror] ++ Part.handling) = true) : Changes ps s₀ (s.takePairState payload) :=
    by
  refine h.then ?_ hc
  unfold State.takePairState
  repeat' first
    | (simp +decide (maxDischargeDepth := 30) only [Changes.refl, State.takeFollowFrame_changes,
        State.takeLeadFrame_changes, State.queuePairCtrl_changes])
    | split

theorem State.losePartner_changes {ps : List Part} {s₀ s : State} (h : Changes ps s₀ s) (hc : covers ps ([.attempt,
    .records, .pairState, .offers, .pairTimers] ++ Part.handling) = true) : Changes ps s₀ (s.losePartner) := by
  refine h.then ?_ hc
  unfold State.losePartner
  simp +decide (maxDischargeDepth := 30) only [Changes.refl, implies_true, true_or, or_true, and_self,
      State.latchEvent_changes, State.exitRole_changes, State.modPair_changes]

theorem State.pairPeriod_changes {ps : List Part} {s₀ s : State} (h : Changes ps s₀ s) (hc : covers ps [.queue,
    .pairTimers] = true) : Changes ps s₀ (s.pairPeriod) := by
  refine h.then ?_ hc
  unfold State.pairPeriod
  simp +decide (maxDischargeDepth := 30) only [Changes.refl, implies_true, true_or, or_true, and_self,
      State.queueReport_changes, State.modPair_changes]

/-! ### The Panel Port -/

theorem State.sendIndicator_changes {ps : List Part} {s₀ s : State} (h : Changes ps s₀ s) (i : Indicator)
    (hc : covers ps [.indicator] = true) : Changes ps s₀ (s.sendIndicator i) := by
  refine h.then ?_ hc
  unfold State.sendIndicator
  refine State.modOverrides_changes (Changes.refl _ _) _ (.inr fun v => ?_) (.inr fun v => ?_) (.inr fun v => ?_) (.inl rfl) <;>
    split <;> simp

theorem State.indicate_changes {ps : List Part} {s₀ s : State} (h : Changes ps s₀ s) (accepted : Bool) (hc : covers ps
    [.indicator] = true) : Changes ps s₀ (s.indicate accepted) := by
  refine h.then ?_ hc
  unfold State.indicate
  simp +decide (maxDischargeDepth := 30) only [Changes.refl, State.sendIndicator_changes]

theorem State.indicatorDone_changes {ps : List Part} {s₀ s : State} (h : Changes ps s₀ s) (hc : covers ps [.indicator]
    = true) : Changes ps s₀ (s.indicatorDone) := by
  refine h.then ?_ hc
  unfold State.indicatorDone
  simp +decide (maxDischargeDepth := 30) only [Changes.refl, implies_true, true_or, or_true, and_self,
      State.modOverrides_changes]

theorem State.keyPressed_changes {ps : List Part} {s₀ s : State} (h : Changes ps s₀ s) (hc : covers ps ([.attempt] ++
    Part.handling) = true) : Changes ps s₀ (s.keyPressed) := by
  refine h.then ?_ hc
  unfold State.keyPressed
  simp +decide (maxDischargeDepth := 30) only [Changes.refl, State.evidenceEvent_changes, State.removeStale_changes]

theorem State.forward_changes {ps : List Part} {s₀ s : State} (h : Changes ps s₀ s) (f : Forwarded) (hc : covers ps
    [.queue, .pairData] = true) : Changes ps s₀ (s.forward f) := by
  refine h.then ?_ hc
  unfold State.forward
  simp +decide (maxDischargeDepth := 30) only [Changes.refl, implies_true, true_or, or_true, and_self,
      State.queueReport_changes, State.modPair_changes]

theorem State.pressKey_changes {s : State} {ask : State → State × Bool} {ps : List Part}
    (ha : ∀ s, Changes ps s (ask s).1) (hk : covers ps ([.attempt] ++ Part.handling) = true)
    (hi : covers ps [.indicator] = true) : Changes ps s (s.pressKey ask) :=
  State.indicate_changes ((State.keyPressed_changes (Changes.refl _ s) hk).trans (ha _)) _ hi

theorem State.removeLevel3_changes {ps : List Part} {s₀ s : State} (h : Changes ps s₀ s) (hc : covers ps Part.readers
    = true) : Changes ps s₀ (s.removeLevel3) := by
  refine h.then ?_ hc
  unfold State.removeLevel3
  simp +decide (maxDischargeDepth := 30) only [Changes.refl, State.removeWhere_changes]

theorem State.requestVacancy_changes {ps : List Part} {s₀ s : State} (h : Changes ps s₀ s) (hc : covers ps
    Part.handling = true) : Changes ps s₀ (s.requestVacancy) := by
  refine h.then ?_ hc
  unfold State.requestVacancy
  simp +decide (maxDischargeDepth := 30) only [Changes.refl, Changes.ite, State.declareVacancy_changes]

theorem State.askPanel_changes (s : State) (r : Request) : Changes Part.readers s (s.askPanel r).1 :=
  State.takeRequest_changes (Changes.refl _ s) r (by decide)

theorem State.askForwarded_changes (s : State) (q : Quantity) (f : Forwarded) :
    Changes [.queue, .latches, .pairData] s (s.askForwarded q f).1 := by
  unfold State.askForwarded
  split
  · exact State.latchEvent_changes (Changes.refl _ s) _ (by decide)
  · exact State.forward_changes (Changes.refl _ s) f (by decide)

theorem State.askLights_changes (s : State) (q : Quantity) (f : Forwarded) (own : Int) :
    Changes ([.pairData] ++ Part.readers) s (s.askLights q f own).1 := by
  unfold State.askLights
  split
  · exact (State.askForwarded_changes s q f).mono
  · exact (State.askPanel_changes s _).mono

theorem State.askRoomOff_changes (s : State) : Changes Part.handling s s.askRoomOff.1 := by
  unfold State.askRoomOff
  split
  · exact State.latchEvent_changes (Changes.refl _ s) _ (by decide)
  · exact State.requestVacancy_changes (State.removeLevel3_changes (Changes.refl _ s) (by decide)) (by decide)

/-! ### Life-safety and hold -/

theorem State.setMode_changes {ps : List Part} {s₀ s : State} (h : Changes ps s₀ s) (m : LifeSafety) (hc : covers ps
    [.modes] = true) : Changes ps s₀ (s.setMode m) := by
  refine h.then ?_ hc
  unfold State.setMode
  simp +decide (maxDischargeDepth := 30) only [Changes.refl, implies_true, true_or, or_true, and_self,
      State.modOverrides_changes]

theorem State.startSafety_changes {ps : List Part} {s₀ s : State} (h : Changes ps s₀ s) (hc : covers ps [.dims,
    .damper, .motor, .queue, .latches, .airRecord, .grant, .light, .held, .drive, .handed] = true) : Changes ps s₀
    (s.startSafety) := by
  refine h.then ?_ hc
  unfold State.startSafety
  simp +decide (maxDischargeDepth := 30) only [Changes.refl, State.evaluate_changes, State.safetyDamper_changes,
      State.relight_changes, State.driveLifeSafety_changes, State.reshade_changes]

theorem State.decideAnew_changes {ps : List Part} {s₀ s : State} (h : Changes ps s₀ s) (hc : covers ps [.motor,
    .queue, .latches, .held, .drive] = true) : Changes ps s₀ (s.decideAnew) := by
  refine h.then ?_ hc
  unfold State.decideAnew
  refine Changes.foldl (fun _ _ => ?_) _ (Changes.refl _ _)
  repeat' first
    | (simp +decide (maxDischargeDepth := 30) only [Changes.refl, State.setHeld_changes,
        State.requestBank_changes])
    | split

theorem State.endSafety_changes {ps : List Part} {s₀ s : State} (h : Changes ps s₀ s) (hc : covers ps [.dims, .damper,
    .motor, .queue, .latches, .airRecord, .grant, .light, .held, .drive, .handed] = true) : Changes ps s₀
    (s.endSafety) := by
  refine h.then ?_ hc
  unfold State.endSafety
  simp +decide (maxDischargeDepth := 30) only [Changes.refl, State.evaluate_changes, State.relight_changes,
      State.decideAnew_changes, State.handCarried_changes]

theorem State.changeMode_changes {ps : List Part} {s₀ s : State} (h : Changes ps s₀ s) (m : LifeSafety) (hc : covers
    ps [.dims, .damper, .motor, .queue, .latches, .airRecord, .grant, .light, .held, .drive, .handed, .modes] = true)
    : Changes ps s₀ (s.changeMode m) := by
  refine h.then ?_ hc
  unfold State.changeMode
  simp +decide (maxDischargeDepth := 30) only [Changes.refl, Changes.ite, State.setMode_changes,
      State.startSafety_changes, State.endSafety_changes, State.safetyDamper_changes]

theorem State.formMode_changes {ps : List Part} {s₀ s : State} (h : Changes ps s₀ s) (hc : covers ps [.dims, .damper,
    .motor, .queue, .latches, .airRecord, .grant, .light, .held, .drive, .handed, .modes] = true) : Changes ps s₀
    (s.formMode) := by
  refine h.then ?_ hc
  unfold State.formMode
  simp +decide (maxDischargeDepth := 30) only [Changes.refl, State.changeMode_changes]

theorem State.takeSafetyFrame_changes {ps : List Part} {s₀ s : State} (h : Changes ps s₀ s) (m : LifeSafety) (hc :
    covers ps [.dims, .damper, .motor, .queue, .latches, .airRecord, .grant, .light, .held, .drive, .handed, .modes] =
    true) : Changes ps s₀ (s.takeSafetyFrame m) := by
  refine h.then ?_ hc
  unfold State.takeSafetyFrame
  simp +decide (maxDischargeDepth := 30) only [Changes.refl, implies_true, true_or, or_true, and_self,
      State.formMode_changes, State.modOverrides_changes]

theorem State.holdOnNow_changes {ps : List Part} {s₀ s : State} (h : Changes ps s₀ s) (hc : covers ps [.motor, .queue,
    .latches, .drive, .hold] = true) : Changes ps s₀ (s.holdOnNow) := by
  refine h.then ?_ hc
  unfold State.holdOnNow
  simp +decide (maxDischargeDepth := 30) only [Changes.refl, Changes.ite, implies_true, true_or, or_true,
      and_self, State.driveHoldOn_changes, State.modOverrides_changes]

theorem State.holdOffNow_changes {ps : List Part} {s₀ s : State} (h : Changes ps s₀ s) (hc : covers ps [.dims,
    .damper, .motor, .queue, .latches, .drive, .hold] = true) : Changes ps s₀ (s.holdOffNow) := by
  refine h.then ?_ hc
  unfold State.holdOffNow
  simp +decide (maxDischargeDepth := 30) only [Changes.refl, Changes.ite, implies_true, true_or, or_true,
      and_self, State.driveDamper_changes, State.driveDims_changes, State.grant_changes, State.reissue_changes,
      State.modOverrides_changes]

/-! ### The transmit path -/

theorem State.startAttempt_changes {ps : List Part} {s₀ s : State} (h : Changes ps s₀ s) (hc : covers ps [.attempt] =
    true) : Changes ps s₀ (s.startAttempt) := by
  refine h.then ?_ hc
  unfold State.startAttempt
  repeat' first
    | (simp +decide (maxDischargeDepth := 30) only [Changes.refl, implies_true, true_or, or_true, and_self,
        State.modLink_changes])
    | split

theorem State.endAttempt_changes {ps : List Part} {s₀ s : State} (h : Changes ps s₀ s) (hc : covers ps [.attempt] =
    true) : Changes ps s₀ (s.endAttempt) := by
  refine h.then ?_ hc
  unfold State.endAttempt
  simp +decide (maxDischargeDepth := 30) only [Changes.refl, implies_true, true_or, or_true, and_self,
      State.modLink_changes]

theorem State.settleDisabled_changes {ps : List Part} {s₀ s : State} (h : Changes ps s₀ s) (mask : BitVec 16) (k :
    EventKind) (hc : covers ps [.latches] = true) : Changes ps s₀ (s.settleDisabled mask k) := by
  refine h.then ?_ hc
  unfold State.settleDisabled
  simp +decide (maxDischargeDepth := 30) only [Changes.refl, Changes.ite, State.setLatch_changes]

theorem State.restartStatus_changes {ps : List Part} {s₀ s : State} (h : Changes ps s₀ s) (hc : covers ps
    [.linkTimers] = true) : Changes ps s₀ (s.restartStatus) := by
  refine h.then ?_ hc
  unfold State.restartStatus
  simp +decide (maxDischargeDepth := 30) only [Changes.refl, implies_true, true_or, or_true, and_self,
      State.modLink_changes]

theorem State.restartDemand_changes {ps : List Part} {s₀ s : State} (h : Changes ps s₀ s) (hc : covers ps [.published]
    = true) : Changes ps s₀ (s.restartDemand) := by
  refine h.then ?_ hc
  unfold State.restartDemand
  simp +decide (maxDischargeDepth := 30) only [Changes.refl, implies_true, true_or, or_true, and_self,
      State.modAir_changes]

theorem State.settlePairState_changes {ps : List Part} {s₀ s : State} (h : Changes ps s₀ s) (a : Attempt) (hc : covers
    ps [.pairTimers, .pairData] = true) : Changes ps s₀ (s.settlePairState a) := by
  refine h.then ?_ hc
  unfold State.settlePairState
  simp +decide (maxDischargeDepth := 30) only [Changes.refl, Changes.ite, implies_true, true_or, or_true,
      and_self, State.modPair_changes]

theorem State.ownerAction_changes {ps : List Part} {s₀ s : State} (h : Changes ps s₀ s) (a : Attempt) (hc : covers ps
    [.latches, .linkTimers, .published, .pairTimers, .pairData] = true) : Changes ps s₀ (s.ownerAction a) := by
  refine h.then ?_ hc
  unfold State.ownerAction
  repeat' first
    | (simp +decide (maxDischargeDepth := 30) only [Changes.refl, implies_true, true_or, or_true, and_self,
        State.restartDemand_changes, State.settleDisabled_changes, State.restartStatus_changes,
        State.settlePairState_changes, State.setLatch_changes, State.modAir_changes, Changes.foldl])
    | split

theorem State.requeueSent_changes {ps : List Part} {s₀ s : State} (h : Changes ps s₀ s) (e : Entry) (hc : covers ps
    [.queue] = true) : Changes ps s₀ (s.requeueSent e) := by
  refine h.then ?_ hc
  unfold State.requeueSent
  simp +decide (maxDischargeDepth := 30) only [Changes.refl, Changes.ite, State.queueWith_changes]

theorem State.completeEntry_changes {ps : List Part} {s₀ s : State} (h : Changes ps s₀ s) (a : Attempt) (e : Entry)
    (hc : covers ps [.attempt, .queue, .latches, .linkTimers, .published, .pairTimers, .pairData] = true) : Changes ps
    s₀ (s.completeEntry a e) := by
  refine h.then ?_ hc
  unfold State.completeEntry
  simp +decide (maxDischargeDepth := 30) only [Changes.refl, State.endAttempt_changes, State.dropEntry_changes,
      State.ownerAction_changes, State.requeueSent_changes, State.refill_changes]

theorem State.completeAttempt_changes {ps : List Part} {s₀ s : State} (h : Changes ps s₀ s) (hc : covers ps [.attempt,
    .queue, .latches, .linkTimers, .published, .pairTimers, .pairData] = true) : Changes ps s₀ (s.completeAttempt) :=
    by
  refine h.then ?_ hc
  unfold State.completeAttempt
  repeat' first
    | (simp +decide (maxDischargeDepth := 30) only [Changes.refl, State.endAttempt_changes,
        State.completeEntry_changes])
    | split

theorem State.foldLater_changes {ps : List Part} {s₀ s : State} (h : Changes ps s₀ s) (k : ReportKind) (hc : covers ps
    [.latches] = true) : Changes ps s₀ (s.foldLater k) := by
  refine h.then ?_ hc
  unfold State.foldLater
  repeat' first
    | (simp +decide (maxDischargeDepth := 30) only [Changes.refl, implies_true, State.setLatch_changes,
        Changes.foldl])
    | split

theorem State.setAttempts_changes {ps : List Part} {s₀ s : State} (h : Changes ps s₀ s) (k : ReportKind) (n : Nat) (hc
    : covers ps [.queue] = true) : Changes ps s₀ (s.setAttempts k n) := by
  refine h.then ?_ hc
  unfold State.setAttempts
  simp +decide (maxDischargeDepth := 30) only [Changes.refl, implies_true, true_or, or_true, and_self,
      State.modLink_changes]

theorem State.drawBackoff_changes {ps : List Part} {s₀ s : State} (h : Changes ps s₀ s) (count : Nat) (hc : covers ps
    [.pauses, .draws] = true) : Changes ps s₀ (s.drawBackoff count) := by
  refine h.then ?_ hc
  unfold State.drawBackoff
  simp +decide (maxDischargeDepth := 30) only [Changes.refl, implies_true, true_or, or_true, and_self,
      State.countDraw_changes, State.modLink_changes]

theorem State.settleAbandoned_changes {ps : List Part} {s₀ s : State} (h : Changes ps s₀ s) (k : ReportKind) (hc :
    covers ps [.queue] = true) : Changes ps s₀ (s.settleAbandoned k) := by
  refine h.then ?_ hc
  unfold State.settleAbandoned
  repeat' first
    | (simp +decide (maxDischargeDepth := 30) only [Changes.refl, State.dropEntry_changes,
        State.refill_changes, State.setAttempts_changes])
    | split

theorem State.abandon_changes {ps : List Part} {s₀ s : State} (h : Changes ps s₀ s) (a : Attempt) (hc : covers ps
    [.pauses, .queue, .latches] = true) : Changes ps s₀ (s.abandon a) := by
  refine h.then ?_ hc
  unfold State.abandon
  simp +decide (maxDischargeDepth := 30) only [Changes.refl, implies_true, true_or, or_true, and_self,
      State.latchEvent_changes, State.settleAbandoned_changes, State.modLink_changes]

theorem State.collideEntry_changes {ps : List Part} {s₀ s : State} (h : Changes ps s₀ s) (a : Attempt) (hc : covers ps
    [.attempt, .pauses, .queue, .latches, .draws] = true) : Changes ps s₀ (s.collideEntry a) := by
  refine h.then ?_ hc
  unfold State.collideEntry
  simp +decide (maxDischargeDepth := 30) only [Changes.refl, Changes.ite, State.endAttempt_changes,
      State.foldLater_changes, State.setAttempts_changes, State.abandon_changes, State.drawBackoff_changes]

theorem State.dropGathered_changes {ps : List Part} {s₀ s : State} (h : Changes ps s₀ s) (hc : covers ps [.receiver] =
    true) : Changes ps s₀ (s.dropGathered) := by
  refine h.then ?_ hc
  unfold State.dropGathered
  simp +decide (maxDischargeDepth := 30) only [Changes.refl, implies_true, true_or, or_true, and_self,
      State.modLink_changes]

theorem State.collide_changes {ps : List Part} {s₀ s : State} (h : Changes ps s₀ s) (hc : covers ps [.receiver,
    .attempt, .pauses, .queue, .latches, .draws] = true) : Changes ps s₀ (s.collide) := by
  refine h.then ?_ hc
  unfold State.collide
  repeat' first
    | (simp +decide (maxDischargeDepth := 30) only [Changes.refl, Changes.ite, State.dropGathered_changes, State.endAttempt_changes,
        State.drawBackoff_changes, State.collideEntry_changes])
    | split

theorem State.endBackoff_changes {ps : List Part} {s₀ s : State} (h : Changes ps s₀ s) (hc : covers ps [.pauses] =
    true) : Changes ps s₀ (s.endBackoff) := by
  refine h.then ?_ hc
  unfold State.endBackoff
  simp +decide (maxDischargeDepth := 30) only [Changes.refl, implies_true, true_or, or_true, and_self,
      State.modLink_changes]

theorem State.endPause_changes {ps : List Part} {s₀ s : State} (h : Changes ps s₀ s) (hc : covers ps [.pauses] = true)
    : Changes ps s₀ (s.endPause) := by
  refine h.then ?_ hc
  unfold State.endPause
  simp +decide (maxDischargeDepth := 30) only [Changes.refl, implies_true, true_or, or_true, and_self,
      State.modLink_changes]

theorem State.statusPeriod_changes {ps : List Part} {s₀ s : State} (h : Changes ps s₀ s) (hc : covers ps [.queue,
    .linkTimers] = true) : Changes ps s₀ (s.statusPeriod) := by
  refine h.then ?_ hc
  unfold State.statusPeriod
  simp +decide (maxDischargeDepth := 30) only [Changes.refl, State.restartStatus_changes, State.queueReport_changes]

theorem State.demandPeriod_changes {ps : List Part} {s₀ s : State} (h : Changes ps s₀ s) (hc : covers ps [.queue,
    .published] = true) : Changes ps s₀ (s.demandPeriod) := by
  refine h.then ?_ hc
  unfold State.demandPeriod
  simp +decide (maxDischargeDepth := 30) only [Changes.refl, State.restartDemand_changes, State.queueReport_changes]

theorem State.answerQuery_changes {ps : List Part} {s₀ s : State} (h : Changes ps s₀ s) (address room : Nat) (hc :
    covers ps [.queue] = true) : Changes ps s₀ (s.answerQuery address room) := by
  refine h.then ?_ hc
  unfold State.answerQuery
  simp +decide (maxDischargeDepth := 30) only [Changes.refl, Changes.ite, State.queueReport_changes]

/-! ### The receive path -/

theorem State.recordPeer_changes {ps : List Part} {s₀ s : State} (h : Changes ps s₀ s) (address : Nat) (hc : covers ps
    [.peers, .airRecord, .grant, .damper, .queue] = true) : Changes ps s₀ (s.recordPeer address) := by
  refine h.then ?_ hc
  unfold State.recordPeer
  simp +decide (maxDischargeDepth := 30) only [Changes.refl, Changes.ite, State.withPeers_changes,
      State.evaluate_changes]

/-- All that recording a frame's source changes: the Peer Table alone, unless the partner's record is evicted. -/
theorem State.recordPeer_changes_recordingParts (s : State) (f : Frame) :
    Changes (s.recordingParts f) s (s.recordPeer f.src.toNat) := by
  unfold State.recordPeer State.recordingParts
  split <;> simp +decide (maxDischargeDepth := 30) only [Changes.refl, State.withPeers_changes, State.evaluate_changes]

theorem State.dispatch_changes {ps : List Part} {s₀ s : State} {act : State → State} (ha : ∀ s, Changes ps s (act s))
    (h : Changes ps s₀ s) (kind required : Nat) (f : Frame) (hc : covers ps [.queue, .latches] = true) :
    Changes ps s₀ (s.dispatch kind required f act) := by
  unfold State.dispatch
  split
  · exact State.latchEvent_changes h _ hc
  · exact h.trans (ha s)

theorem State.receive_changes {ps : List Part} {s₀ s : State} {act : State → State} (ha : ∀ s, Changes ps s (act s))
    (h : Changes ps s₀ s) (kind required : Nat) (f : Frame) (hc : covers ps [.queue, .latches] = true)
    (hp : covers ps [.peers, .airRecord, .grant, .damper, .queue] = true) : Changes ps s₀ (s.receive kind required f act) := by
  unfold State.receive
  refine State.whileRunning_changes (fun x => ?_) h
  split
  · exact Changes.refl _ _
  · exact State.dispatch_changes ha (State.recordPeer_changes (Changes.refl _ _) _ hp) _ _ _ hc

theorem State.linkFaultFor_changes {ps : List Part} {s₀ s : State} (h : Changes ps s₀ s) (fault : LinkFault) (bytes :
    List Byte) (hc : covers ps [.queue, .latches] = true) : Changes ps s₀ (s.linkFaultFor fault bytes) := by
  refine h.then ?_ hc
  unfold State.linkFaultFor
  simp +decide (maxDischargeDepth := 30) only [Changes.refl, State.latchEvent_changes]

theorem State.discardFrame_changes {ps : List Part} {s₀ s : State} (h : Changes ps s₀ s) (bytes : List Byte) (badStop
    : Bool) (hc : covers ps [.queue, .latches] = true) : Changes ps s₀ (s.discardFrame bytes badStop) := by
  refine h.then ?_ hc
  unfold State.discardFrame
  repeat' first
    | (simp +decide (maxDischargeDepth := 30) only [Changes.refl, State.linkFaultFor_changes])
    | split

theorem State.setReceiver_changes {ps : List Part} {s₀ s : State} (h : Changes ps s₀ s) (g : Option Gathering) (hc :
    covers ps [.receiver] = true) : Changes ps s₀ (s.setReceiver g) := by
  refine h.then ?_ hc
  unfold State.setReceiver
  simp +decide (maxDischargeDepth := 30) only [Changes.refl, implies_true, true_or, or_true, and_self,
      State.modLink_changes]

theorem State.endFrame_changes (s : State) (g : Gathering) : Changes [.receiver, .pending] s (s.endFrame g) := by
  intro p hp
  cases p <;> first
    | exact absurd (by decide) hp
    | simp [State.agrees, State.endFrame, State.setReceiver, State.modLink]

theorem State.takeByte_changes (s : State) (b : LineByte) : Changes [.receiver, .pending] s (s.takeByte b) := by
  unfold State.takeByte State.huntByte State.gatherByte
  dsimp only
  repeat' first
    | exact State.endFrame_changes _ _
    | (simp +decide (maxDischargeDepth := 30) only [Changes.refl, Changes.ite, State.setReceiver_changes])
    | split

/-- All that a step on an empty queue changes: the time, or what is heard of the line. -/
theorem State.idle_changes (s : State) : Changes [.now, .receiver, .line, .pending] s s.idle := by
  unfold State.idle
  split
  · exact State.tick_changes (Changes.refl _ _) rfl
  · rename_i b rest _
    have h : Changes [.now, .receiver, .line, .pending] s { s with line := rest } := by
      intro p hp
      cases p <;> first
        | exact absurd (by decide) hp
        | simp [State.agrees]
    exact h.trans (State.whileRunning_changes (fun x => (State.takeByte_changes x b).mono) (Changes.refl _ _))

theorem State.dropShort_changes {ps : List Part} {s₀ s : State} (h : Changes ps s₀ s) (g : Gathering) (hc : covers ps
    [.queue, .latches] = true) : Changes ps s₀ (s.dropShort g) := by
  refine h.then ?_ hc
  unfold State.dropShort
  simp +decide (maxDischargeDepth := 30) only [Changes.refl, State.linkFaultFor_changes]

theorem State.timeoutFrame_changes {ps : List Part} {s₀ s : State} (h : Changes ps s₀ s) (handed : Gathering) (hc :
    covers ps [.receiver, .queue, .latches] = true) : Changes ps s₀ (s.timeoutFrame handed) := by
  refine h.then ?_ hc
  unfold State.timeoutFrame
  repeat' first
    | (simp +decide (maxDischargeDepth := 30) only [Changes.refl, Changes.ite, State.dropShort_changes,
        State.setReceiver_changes])
    | split

theorem State.takeTime_changes {ps : List Part} {s₀ s : State} (h : Changes ps s₀ s) (f : TimeFields) (hc : covers ps
    ([.clock, .records] ++ Part.handling) = true) : Changes ps s₀ (s.takeTime f) := by
  refine h.then ?_ hc
  unfold State.takeTime
  simp +decide (maxDischargeDepth := 30) only [Changes.refl, Changes.ite, State.setTime_changes]

theorem State.takeCapacity_changes {ps : List Part} {s₀ s : State} (h : Changes ps s₀ s) (f : CapacityFields) (hc :
    covers ps [.damper, .capacity, .grant] = true) : Changes ps s₀ (s.takeCapacity f) := by
  refine h.then ?_ hc
  unfold State.takeCapacity
  simp +decide (maxDischargeDepth := 30) only [Changes.refl, Changes.ite, implies_true, true_or, or_true,
      and_self, State.recompute_changes, State.modAir_changes]

theorem State.loseCapacity_changes {ps : List Part} {s₀ s : State} (h : Changes ps s₀ s) (hc : covers ps [.damper,
    .capacity, .grant] = true) : Changes ps s₀ (s.loseCapacity) := by
  refine h.then ?_ hc
  unfold State.loseCapacity
  simp +decide (maxDischargeDepth := 30) only [Changes.refl, implies_true, true_or, or_true, and_self,
      State.recompute_changes, State.modAir_changes]

theorem State.takeDemand_changes {ps : List Part} {s₀ s : State} (h : Changes ps s₀ s) (source : Nat) (f :
    DemandFields) (hc : covers ps [.damper, .peers, .grant] = true) : Changes ps s₀ (s.takeDemand source f) := by
  refine h.then ?_ hc
  unfold State.takeDemand
  simp +decide (maxDischargeDepth := 30) only [Changes.refl, State.withPeers_changes, State.recompute_changes]

theorem State.checkView_changes {ps : List Part} {s₀ s : State} (h : Changes ps s₀ s) (hc : covers ps [.damper,
    .grant] = true) : Changes ps s₀ (s.checkView) := by
  refine h.then ?_ hc
  unfold State.checkView
  simp +decide (maxDischargeDepth := 30) only [Changes.refl, Changes.ite, State.recompute_changes]

theorem State.pinchExpired_changes {ps : List Part} {s₀ s : State} (h : Changes ps s₀ s) (hc : covers ps [.queue,
    .latches, .grant] = true) : Changes ps s₀ (s.pinchExpired) := by
  refine h.then ?_ hc
  unfold State.pinchExpired
  simp +decide (maxDischargeDepth := 30) only [Changes.refl, implies_true, true_or, or_true, and_self,
      State.latchEvent_changes, State.modAir_changes]

/-! ### Start-up -/

theorem State.powerOnBlocks_changes {ps : List Part} {s₀ s : State} (h : Changes ps s₀ s)
    (hc : covers ps Part.blocks = true) : Changes ps s₀ s.powerOnBlocks := by
  refine h.then ?_ hc
  intro p hp
  cases p <;> first
    | exact absurd (by decide) hp
    | simp [State.agrees, State.powerOnBlocks]

theorem State.assertReset_changes {ps : List Part} {s₀ s : State} (h : Changes ps s₀ s) (hc : covers ps ([.phase,
    .dims, .damper, .motor] ++ Part.blocks) = true) : Changes ps s₀ (s.assertReset) := by
  refine h.then ?_ hc
  unfold State.assertReset
  simp +decide (maxDischargeDepth := 30) only [Changes.refl, true_or, State.powerOnBlocks_changes,
      State.withPhase_changes, State.modOut_changes]

theorem State.releaseReset_changes {ps : List Part} {s₀ s : State} (h : Changes ps s₀ s) (hc : covers ps [.phase] =
    true) : Changes ps s₀ (s.releaseReset) := by
  refine h.then ?_ hc
  unfold State.releaseReset
  repeat' first
    | (simp +decide (maxDischargeDepth := 30) only [Changes.refl, State.withPhase_changes])
    | split

theorem State.faultOutputs_changes {ps : List Part} {s₀ s : State} (h : Changes ps s₀ s) (hc : covers ps [.dims,
    .damper, .motor] = true) : Changes ps s₀ (s.faultOutputs) := by
  refine h.then ?_ hc
  unfold State.faultOutputs
  simp +decide (maxDischargeDepth := 30) only [Changes.refl, true_or, State.modOut_changes]

theorem State.enterConfigFault_changes {ps : List Part} {s₀ s : State} (h : Changes ps s₀ s) (hc : covers ps ([.phase,
    .dims, .damper, .motor] ++ Part.blocks) = true) : Changes ps s₀ (s.enterConfigFault) := by
  refine h.then ?_ hc
  unfold State.enterConfigFault
  simp +decide (maxDischargeDepth := 30) only [Changes.refl, State.powerOnBlocks_changes,
      State.faultOutputs_changes, State.withPhase_changes]

theorem State.failAttempt_changes {ps : List Part} {s₀ s : State} (h : Changes ps s₀ s) (cause : ReadCause) (attempt
    beginsAt : Nat) (hc : covers ps ([.now, .phase, .dims, .damper, .motor] ++ Part.blocks) = true) : Changes ps s₀
    (s.failAttempt cause attempt beginsAt) := by
  refine h.then ?_ hc
  unfold State.failAttempt
  simp +decide (maxDischargeDepth := 30) only [Changes.refl, Changes.ite, State.advanceTo_changes,
      State.withPhase_changes, State.enterConfigFault_changes]

theorem State.beginRetry_changes {ps : List Part} {s₀ s : State} (h : Changes ps s₀ s) (due : Nat) (hc : covers ps
    [.now, .phase] = true) : Changes ps s₀ (s.beginRetry due) := by
  refine h.then ?_ hc
  unfold State.beginRetry
  simp +decide (maxDischargeDepth := 30) only [Changes.refl, State.advanceTo_changes, State.withPhase_changes]

theorem State.startTimers_changes {ps : List Part} {s₀ s : State} (h : Changes ps s₀ s) (hc : covers ps [.linkTimers,
    .door, .samples, .published, .partition] = true) : Changes ps s₀ (s.startTimers) := by
  refine h.then ?_ hc
  unfold State.startTimers
  simp +decide (maxDischargeDepth := 30) only [Changes.refl, implies_true, true_or, or_true, and_self,
      State.restartStatus_changes, State.restartDemand_changes, State.modEvidence_changes,
      State.modLink_changes, State.modPair_changes]

theorem State.modeAtStart_changes {ps : List Part} {s₀ s : State} (h : Changes ps s₀ s) (hc : covers ps [.modes] =
    true) : Changes ps s₀ (s.modeAtStart) := by
  refine h.then ?_ hc
  unfold State.modeAtStart
  simp +decide (maxDischargeDepth := 30) only [Changes.refl, State.setMode_changes]

theorem State.reportClamp_changes {ps : List Part} {s₀ s : State} (h : Changes ps s₀ s) (hc : covers ps [.queue,
    .latches] = true) : Changes ps s₀ (s.reportClamp) := by
  refine h.then ?_ hc
  unfold State.reportClamp
  repeat' first
    | (simp +decide (maxDischargeDepth := 30) only [Changes.refl, State.latchEvent_changes])
    | split

theorem State.startAir_changes {ps : List Part} {s₀ s : State} (h : Changes ps s₀ s) (hc : covers ps [.damper, .queue,
    .airRecord, .grant] = true) : Changes ps s₀ (s.startAir) := by
  refine h.then ?_ hc
  unfold State.startAir
  simp +decide (maxDischargeDepth := 30) only [Changes.refl, State.evaluateAtStart_changes,
      State.safetyDamper_changes, State.queueReport_changes]

theorem State.beginRunning_changes {ps : List Part} {s₀ s : State} (h : Changes ps s₀ s) (hc : covers ps [.phase,
    .dims, .damper, .motor, .queue, .latches, .linkTimers, .door, .samples, .airRecord, .grant, .published, .light,
    .held, .drive, .partition, .handed, .modes] = true) : Changes ps s₀ (s.beginRunning) := by
  refine h.then ?_ hc
  unfold State.beginRunning
  simp +decide (maxDischargeDepth := 30) only [Changes.refl, implies_true, true_or, or_true, and_self,
      State.withPhase_changes, State.modeAtStart_changes, State.reportClamp_changes, State.queueReport_changes,
      State.startAir_changes, State.relight_changes, State.decideAnew_changes, State.handCarried_changes,
      State.startTimers_changes, State.modOut_changes]

theorem State.startFresh_changes {ps : List Part} {s₀ s : State} (h : Changes ps s₀ s) (hc : covers ps ([.phase,
    .dims, .damper, .motor] ++ Part.blocks) = true) : Changes ps s₀ (s.startFresh) := by
  refine h.then ?_ hc
  unfold State.startFresh
  simp +decide (maxDischargeDepth := 30) only [Changes.refl, implies_true, true_or, or_true, and_self,
      State.powerOnBlocks_changes, State.beginRunning_changes, State.modOut_changes]

theorem State.stopForRestart_changes {ps : List Part} {s₀ s : State} (h : Changes ps s₀ s) (hc : covers ps [.motor,
    .receiver, .attempt, .pauses, .queue, .latches, .peers, .drive, .indicator] = true) : Changes ps s₀
    (s.stopForRestart) := by
  refine h.then ?_ hc
  unfold State.stopForRestart
  have hl : Changes [.motor, .receiver, .attempt, .pauses, .queue, .latches, .peers, .drive, .indicator] s
      (s.modLink Link.stopped) :=
    State.modLink_changes (Changes.refl _ s) _ (.inl rfl) (.inl rfl) (.inl rfl) (.inl rfl)
      (.inr fun _ => ⟨rfl, rfl⟩) (.inl rfl)
  simp +decide (maxDischargeDepth := 30) only [hl, implies_true, true_or, or_true, and_self,
      State.withPeers_changes, State.driveStop_changes, State.modOverrides_changes]

theorem State.softRestart_changes {ps : List Part} {s₀ s : State} (h : Changes ps s₀ s) (hc : covers ps [.phase,
    .motor, .receiver, .attempt, .pauses, .queue, .latches, .peers, .drive, .indicator] = true) : Changes ps s₀
    (s.softRestart) := by
  refine h.then ?_ hc
  unfold State.softRestart
  simp +decide (maxDischargeDepth := 30) only [Changes.refl, State.stopForRestart_changes, State.withPhase_changes]

theorem State.resetForRestart_changes {ps : List Part} {s₀ s : State} (h : Changes ps s₀ s)
    (hc : covers ps [.door, .headcount, .history, .samples, .occupancy, .switchMarker, .airRecord, .capacity, .grant, .published, .glare, .held, .pairState, .partition, .offers, .pairTimers, .pairData, .mirror, .handed, .overrideRecords, .hold] = true) : Changes ps s₀ s.resetForRestart := by
  refine h.then ?_ hc
  intro p hp
  cases p <;> first
    | exact absurd (by decide) hp
    | simp [State.agrees, State.resetForRestart]

theorem State.sessionsForRestart_changes {ps : List Part} {s₀ s : State} (h : Changes ps s₀ s) (hc : covers ps
    [.records] = true) : Changes ps s₀ (s.sessionsForRestart) := by
  refine h.then ?_ hc
  unfold State.sessionsForRestart
  simp +decide (maxDischargeDepth := 30) only [Changes.refl, Changes.ite, State.dropEnded_changes,
      State.markAllAfresh_changes]

theorem State.startAgain_changes {ps : List Part} {s₀ s : State} (h : Changes ps s₀ s) (hc : covers ps ([.phase,
    .linkTimers, .records, .transfer, .door, .samples, .capacity, .published, .glare, .pairState, .partition, .offers,
    .pairTimers, .mirror, .modes, .hold] ++ Part.handling) = true) : Changes ps s₀ (s.startAgain) := by
  refine h.then ?_ hc
  unfold State.startAgain
  simp +decide (maxDischargeDepth := 30) only [Changes.refl, State.closeTransfer_changes,
      State.resetForRestart_changes, State.sessionsForRestart_changes, State.derive_changes,
      State.beginRunning_changes]

theorem State.finishRead_changes (s : State) (cause : ReadCause) (beginsAt : Nat) (image : List Byte) :
    Changes ([.now, .phase, .loader, .dims, .damper, .motor] ++ Part.blocks) s (s.finishRead cause beginsAt image) := by
  have h : Changes ([.now, .phase, .loader, .dims, .damper, .motor] ++ Part.blocks) s
      { s.advanceTo beginsAt with loader := loaderFrom image } := by
    intro p hp
    cases p <;> first
      | exact absurd (by decide) hp
      | simp [State.agrees, State.advanceTo]
  unfold State.finishRead
  cases cause
  · exact State.startFresh_changes h (by decide)
  · exact State.startAgain_changes h (by decide)
  · exact State.startFresh_changes h (by decide)

theorem State.passMinute_changes {ps : List Part} {s₀ s : State} (h : Changes ps s₀ s) (hc : covers ps [.clock] =
    true) : Changes ps s₀ (s.passMinute) := by
  refine h.then ?_ hc
  unfold State.passMinute
  simp +decide (maxDischargeDepth := 30) only [Changes.refl, State.setMinute_changes]

theorem State.atBoundary_changes {ps : List Part} {s₀ s : State} (h : Changes ps s₀ s) (hc : covers ps [.now, .clock]
    = true) : Changes ps s₀ (s.atBoundary) := by
  refine h.then ?_ hc
  unfold State.atBoundary
  simp +decide (maxDischargeDepth := 30) only [Changes.refl, State.advanceTo_changes, State.modClock_changes]

theorem State.minutePasses_changes {ps : List Part} {s₀ s : State} (h : Changes ps s₀ s) (hc : covers ps ([.now,
    .clock, .records] ++ Part.handling) = true) : Changes ps s₀ (s.minutePasses) := by
  refine h.then ?_ hc
  unfold State.minutePasses
  repeat' first
    | (simp +decide (maxDischargeDepth := 30) only [Changes.refl, State.atBoundary_changes,
        State.advanceMinute_changes, State.passMinute_changes])
    | split

theorem State.fireTo_changes {ps : List Part} {s₀ s : State} (h : Changes ps s₀ s) (asserted : Bool) (hc : covers ps
    [.pins, .dims, .damper, .motor, .queue, .latches, .airRecord, .grant, .light, .held, .drive, .handed, .modes] =
    true) : Changes ps s₀ (s.fireTo asserted) := by
  refine h.then ?_ hc
  unfold State.fireTo
  simp +decide (maxDischargeDepth := 30) only [Changes.refl, Changes.ite, State.formMode_changes,
      State.faultOutputs_changes, State.modPins_changes]

end Sys2Proof.Machine
end

