-- ==== Sys2Proof/WellFormed.lean ====
section
/-! DEFINITION. Which commands can occur: the operands that the event of each row can carry. -/

namespace Sys2Proof

open Sys2Proof.Machine

/-- A payload is at most 24 bytes (R188). -/
def Frame.fits (f : Frame) : Bool := f.payload.length ≤ 24

/-- The kind codes that have a row of their own (R165). -/
def takenKinds : List (BitVec 6) :=
  [0x01, 0x02, 0x03, 0x04, 0x08, 0x09, 0x10, 0x11, 0x12, 0x13, 0x14, 0x18, 0x19, 0x1A, 0x1B, 0x20]

/-- A command whose operands its event can carry: an image has 128 bytes (R182), a payload fits, the frames that share a kind
code stand in the row of their content, an untaken frame has an untaken kind, a discarded frame fails a check (R163), a frame
ended by the idle line is not complete, and a discarded panel byte is no key (R154). -/
def Instr.wellFormed : Instr → Bool
  | .configReadComplete image => image.length = 128
  | .time f | .ttBegin f | .ttEntry f | .ttCancel f | .capacity f | .demand f => f.fits
  | .joinOffer f | .joinAccept f | .joinRefuse f | .joinLeave f | .pairState f | .restart f | .query f => f.fits
  | .override f => f.fits && !bitAt f.payload 3 0
  | .overrideClear f => f.fits && bitAt f.payload 3 0
  | .lifeSafetyEvacuate f => f.fits && byteAt f.payload 0 = 1
  | .lifeSafetySmokeHold f => f.fits && byteAt f.payload 0 = 2
  | .lifeSafetyClear f => f.fits && byteAt f.payload 0 ≠ 1 && byteAt f.payload 0 ≠ 2
  | .holdOn f => f.fits && byteAt f.payload 1 = 1
  | .holdOff f => f.fits && byteAt f.payload 1 ≠ 1
  | .otherFrame kind f => f.fits && !takenKinds.contains kind
  | .frameDiscard bytes badStop => (frameFault bytes badStop).isSome
  | .frameIdleTimeout bytes _ => !(5 ≤ bytes.length && byteAt bytes 2 + 5 ≤ bytes.length)
  | .panelByteDiscard byte framingError => framingError || (decodeKey byte).isNone
  | .nrstAsserted | .nrstNegated | .configAttemptFailed | .configRetryExpiry | .minuteBoundary => true
  | .silenceTimerExpiry | .overrunTimerExpiry | .pirPulse | .beamBreak _ | .beamRelease _ | .windowExpiry => true
  | .stuckTimerExpiry _ | .vacancyHoldExpiry | .tripleHoldExpiry => true
  | .co2Sample _ | .photocellSample _ | .irradianceSample _ | .clearDwellExpiry => true
  | .capacityTimerExpiry | .viewAgeCheck | .pinchTimerExpiry | .demandPeriodExpiry => true
  | .moveCompletion | .homingEnd | .trip _ | .partChange _ | .debounceExpiry | .offerRetryExpiry => true
  | .pairStatusPeriodExpiry | .livenessExpiry | .staleTimerExpiry _ => true
  | .sceneKey _ | .lightUp | .lightDown | .blindsUp | .blindsDown | .blindsStop | .airBoostKey | .roomOff => true
  | .indicatorSent | .fireChange _ | .statusPeriodExpiry => true
  | .attemptStart | .transmitCompletion | .collision | .backoffEnd | .longPauseEnd => true

end Sys2Proof
end

