-- ==== Sys2Proof/Tests/Slice0.lean ====
section
/-! SUPPORT. This model's own tests: the refusals of WellFormed, values that the spec works out itself (each names where), and for
every statement with hypotheses a state and operands that meet them. -/

namespace Sys2Proof.Tests

open Sys2Proof Sys2Proof.Machine

-- Elaborated one after the other: all at once they would ask for more threads than the check allows.
set_option Elab.async false

/-! ## WellFormed refuses each ill-formed term -/

theorem test_image_of_127_bytes_refused : (Instr.configReadComplete (List.replicate 127 255)).wellFormed = false := by decide +kernel

theorem test_payload_of_25_bytes_refused : (Instr.time ⟨1, 2, List.replicate 25 0, false⟩).wellFormed = false := by decide

theorem test_override_row_with_clear_bit_refused :
    (Instr.override ⟨1, 1, [0, 0, 0, 1, 1, 0, 0, 0, 0], false⟩).wellFormed = false := by decide

theorem test_clear_row_without_clear_bit_refused :
    (Instr.overrideClear ⟨1, 1, [0, 0, 0, 0, 1, 0, 0, 0, 0], false⟩).wellFormed = false := by decide

theorem test_evacuate_row_of_another_mode_refused :
    (Instr.lifeSafetyEvacuate ⟨1, 0, [2, 0, 0], false⟩).wellFormed = false := by decide

theorem test_smoke_hold_row_of_another_mode_refused :
    (Instr.lifeSafetySmokeHold ⟨1, 0, [1, 0, 0], false⟩).wellFormed = false := by decide

theorem test_clear_mode_row_of_another_mode_refused :
    (Instr.lifeSafetyClear ⟨1, 0, [1, 0, 0], false⟩).wellFormed = false := by decide

theorem test_hold_on_row_of_off_refused : (Instr.holdOn ⟨1, 1, [127, 0], false⟩).wellFormed = false := by decide

theorem test_hold_off_row_of_on_refused : (Instr.holdOff ⟨1, 1, [127, 1], false⟩).wellFormed = false := by decide

theorem test_other_frame_of_a_taken_kind_refused : (Instr.otherFrame 0x09 ⟨1, 3, [], false⟩).wellFormed = false := by decide

theorem test_discard_of_a_sound_frame_refused :
    (Instr.frameDiscard (frameBody 5 3 0x12 []) false).wellFormed = false := by decide +kernel

theorem test_idle_timeout_of_a_complete_frame_refused :
    (Instr.frameIdleTimeout [5, 0xC0, 0, 1, 2] false).wellFormed = false := by decide

theorem test_discard_of_a_key_refused : (Instr.panelByteDiscard 0x50 false).wellFormed = false := by decide

/-! ## A running node, and the state after a command -/

/-- The state after a command. -/
def after (s : State) (c : Instr) : State :=
  match exec c s with
  | .next t => t
  | _ => s

/-- A frame of a source, a class and a payload. -/
def frm (source cls : Nat) (payload : List Byte) : Frame := ⟨BitVec.ofNat 8 source, BitVec.ofNat 2 cls, payload, false⟩

/-- The configuration record of the tests: station 10 of room 500, with partner 20 and pair room 600 on riser 4, S 800 ppm, and
bank 3 slow, beside the screen and lowered whole against glare. -/
def settings : ConfigRecord :=
  { ConfigRecord.erased with
    station := 10, room := 500, pairRoom := 600, partner := 20, riser := 4, co2Setpoint := 800
    banks := ⟨⟨60, 70, false⟩, ⟨60, 70, false⟩, ⟨90, 100, true⟩⟩ }

/-- A running node, at wing minute 1000 and 10,000 s of the oscillator. -/
def node : State :=
  { State.reset with now := 10000000, phase := .running, loader := ⟨settings, false, none⟩, clock := ⟨1000, 10060000, true⟩ }

/-- A lecture of 50 people in scene 3, from minute 950 to 1060, begun. -/
def lecture : Session := ⟨77, 950, 1060, .lecture, .leaf, 50, 3, 15, 10, none, true, true, true, false⟩

/-- The node with its lecture current in a state, evidence fresh. -/
def held (o : Occupancy) : State :=
  { node with
    sessions := ⟨[lecture], none⟩, room := { Room.powerOn with occupancy := o, current := some 77 }
    evidence := { Evidence.powerOn with headcount := 42, lastEvidence := some 9990000, confirmMark := some 9880000 } }

/-- The node in a pair state, with its timers. -/
def paired (p : PairState) : State :=
  { node with
    pair :=
      { Pair.powerOn with
        state := p, readsOpen := true, livenessDue := some 10090000, periodDue := some 10030000
        offerDue := some 10005000, offerCount := 1 } }

/-- The node with a move of bank 1 in flight from 20 toward 90, started 12 s ago. -/
def moving (p : Phase) (d : Direction) : State :=
  { node with
    drive := ⟨⟨20, 0, 0⟩, ⟨false, false, false⟩, ⟨none, none, none⟩, some ⟨.bank1, p, d, 20, 9988000, 90, .glare⟩⟩
    out := ⟨0, 0, 0, d = .raise, d = .lower, .bank1⟩ }

/-- The node with one entry queued and its attempt in flight. -/
def sending (k : ReportKind) (attempts : Nat) : State :=
  { node with
    link :=
      { Link.powerOn with
        queue := [⟨k, attempts, false, none⟩], attempt := some ⟨k, [], none, 540, 0, false, false, false, attempts⟩
        latches := { Link.powerOn.latches with sessionBegin := some ⟨.sessionBegin 77, 1, some ⟨.sessionBegin 78, 2⟩⟩ } } }

/-- A table of 48 peers heard at a time. -/
def fullPeers (heardAt : Nat) : List Peer := (List.range 48).map fun i => ⟨60 + i, heardAt, none, none⟩

/-- The riser of section 4's sharing case: its peers A, B and C, and the own record of 540 and 60 in class 3. -/
def shared : State :=
  { node with
    peers :=
      [⟨1, 10000000, some ⟨4, 400, 60, 3, 10000000⟩, none⟩, ⟨2, 10000000, some ⟨4, 300, 40, 2, 10000000⟩, none⟩,
        ⟨3, 10000000, some ⟨4, 40, 40, 1, 10000000⟩, none⟩]
    air := { Air.powerOn with demand := 540, floor := 60, airClass := 3, lastPublished := some 540 } }

/-- Life-safety in a mode, from a frame. -/
def safety (m : LifeSafety) : State :=
  { node with
    overrides := { Overrides.powerOn with frameMode := m, lifeSafety := m }
    out := { Outputs.inReset with dim1 := 1000, dim2 := 1000, dmp := match m with
      | .smokeHold p => min 1000 p
      | _ => 0 } }

/-! ## Values the spec works out -/

/-- R189's check value. -/
theorem test_crc_of_123456789 : crc16 [0x31, 0x32, 0x33, 0x34, 0x35, 0x36, 0x37, 0x38, 0x39] = 0x29B1#16 := by decide +kernel

/-- The faulty memory of section 10: h of 400 against H of 350 is 300, P_g of 30 is 40, and field 20 is the first clamped. -/
def faultyImage : List Byte :=
  ([21, 0xF4, 1, 0x58, 2, 0, 4] ++ List.replicate 22 255) ++ ([0x90, 1, 255, 30] ++ List.replicate 95 255)

theorem test_faulty_image_clamps :
    (recordFrom faultyImage).hysteresis = 300 ∧ (recordFrom faultyImage).banks.bank1.glarePos = 40 ∧
      (loaderFrom faultyImage).firstClamped = some 20 ∧ (recordFrom faultyImage).room = 500 := by decide +kernel

/-- R184: erased fields take their defaults, and the erased station address becomes 126, field 1. -/
theorem test_erased_image_gives_the_defaults :
    recordFrom (List.replicate 128 255) = ConfigRecord.erased ∧
      (loaderFrom (List.replicate 128 255)).firstClamped = some 1 := by decide +kernel

/-- Section 10's sequence: the third failed attempt gives CONFIG_FAULT with 500, 500 and 250, or 1000, 1000 and 0 with FIRE. -/
theorem test_third_failure_holds_the_fault_outputs :
    let s := after { State.reset with phase := .reading .powerOn 3 20 } .configAttemptFailed
    s.phase = .configFault 60020 ∧ s.out.dim1 = 500 ∧ s.out.dmp = 250 ∧
      (after s (.fireChange true)).out.dim2 = 1000 ∧ (after s (.fireChange true)).out.dmp = 0 := by decide +kernel

/-- Section 10's sequence: the read begins running with CONFIG_CLAMPED 20, in VACANT with its demand. -/
theorem test_read_begins_running :
    let s := after State.reset (.configReadComplete faultyImage)
    s.isRunning = true ∧ s.link.latches.configClamped = some ⟨.configClamped 20, 1, none⟩ ∧ s.air.demand = 60 ∧
      s.air.airClass = 1 ∧ s.out.dmp = 100 := by decide +kernel

/-- R182: NRST asserted puts the outputs at their reset levels. -/
theorem test_reset_input_ends_running :
    (after (held .occupied) .nrstAsserted).phase = .inReset ∧
      (after (after (held .occupied) .nrstAsserted) .nrstNegated).phase = .reading .powerOn 1 10000000 := by decide +kernel

/-- Section 4's sharing case: 900 L/s give 469 and an opening of 781. -/
theorem test_capacity_900 :
    let s := after shared (.capacity (frm 8 2 [4, 0x84, 3, 0]))
    s.air.grant = 469 ∧ s.out.dmp = 781 ∧ s.air.pinch = true ∧ s.air.capacityDue = some 10120000 := by decide +kernel

/-- Section 4's sharing case: 1200 L/s give the whole demand, 150 a share of the floors, a stopped supply nothing. -/
theorem test_capacity_1200_and_150_and_stopped :
    (after shared (.capacity (frm 8 2 [4, 0xB0, 4, 0]))).air.grant = 540 ∧
      (after shared (.capacity (frm 8 2 [4, 150, 0, 0]))).air.grant = 45 ∧
      (after shared (.capacity (frm 8 2 [4, 0x84, 3, 1]))).air.grant = 0 := by decide +kernel

/-- Section 4's sharing case: with capacity unknown, min(540, 300) and an opening of 500. -/
theorem test_capacity_unknown : shared.recompute.air.grant = 300 ∧ shared.recompute.out.dmp = 500 := by decide +kernel

/-- Section 4's sequence: a DEMAND of 260 from A leaves room for the whole own extra. -/
theorem test_demand_from_a_peer :
    let s := after shared (.capacity (frm 8 2 [4, 0x84, 3, 0]))
    (after s (.demand (frm 1 3 [4, 4, 1, 60, 0, 3]))).air.grant = 540 := by decide +kernel

/-- Section 4's demand table: OCCUPIED with 42 people, at 760 ppm and at 1050 ppm. -/
theorem test_occupied_demand :
    let s := { held .occupied with evidence := { (held .occupied).evidence with co2 := some 760 } }
    s.evaluate.air.demand = 460 ∧
      { s with evidence := { s.evidence with co2 := some 1050 } }.evaluate.air.demand = 510 := by decide +kernel

/-- Section 4's demand table: PRECONDITION asks for 290 in class 2, EXPECTED for 540. -/
theorem test_expected_demand :
    (held .precondition).evaluate.air.demand = 290 ∧ (held .precondition).evaluate.air.airClass = 2 ∧
      (held .expected).evaluate.air.demand = 540 := by decide +kernel

/-- R39: counts 60 and 1000 are the bounds of a valid reading. -/
theorem test_co2_bounds :
    (after node (.co2Sample 60)).evidence.co2 = some 300 ∧ (after node (.co2Sample 1000)).evidence.co2 = some 5000 ∧
      (after node (.co2Sample 59)).evidence.co2Fault = true ∧ (after node (.co2Sample 1001)).evidence.co2 = none := by
  decide +kernel

/-- The daylight loop of section 5: from 400, at 320 lux against 500, the step is the clamped +40. -/
theorem test_loop_step_is_clamped :
    let s := { held .occupied with light := ⟨3, 800, 500, .followGlare, 500, 400⟩ }
    (after s (.photocellSample 160)).light.restLevel = 440 ∧ (after s (.photocellSample 160)).out.dim2 = 440 := by
  decide +kernel

/-- The daylight loop of section 5: 530 lux against 500 is −7.5, truncated to −7. -/
theorem test_loop_step_truncates_toward_zero :
    (after { held .occupied with light := ⟨3, 800, 500, .followGlare, 500, 404⟩ } (.photocellSample 265)).light.restLevel = 397 := by
  decide +kernel

/-- R41's case: 60 s of full scale declare the fault and restore the value before the run, with the fallback level. -/
theorem test_photocell_fault_restores_the_value :
    let s :=
      { held .occupied with
        light := ⟨3, 800, 500, .followGlare, 400, 0⟩
        evidence := { (held .occupied).evidence with photo := ⟨some 2046, some ⟨9940000, some 470⟩, false, 10000000⟩ } }
    let t := after s (.photocellSample 1023)
    t.evidence.photo.held = some 470 ∧ t.evidence.photo.fault = true ∧ t.light.restLevel = 800 := by decide +kernel

/-- Section 5's glare case, R104: above H sets the flag, and the bank beside the screen goes to its own glare position. -/
theorem test_irradiance_sets_glare :
    let t := after node (.irradianceSample 375)
    t.evidence.irrad.held = some 450 ∧ t.shade.glare = true ∧ t.shade.held = ⟨some ⟨70, .glare⟩, some ⟨70, .glare⟩, some ⟨100, .glare⟩⟩ := by
  decide +kernel

/-- R104: the dwell's expiry clears the flag; a vacant room's banks are then left. -/
theorem test_dwell_clears_glare :
    (after { node with shade := ⟨true, some 10600000, ⟨none, none, none⟩⟩ } .clearDwellExpiry).shade =
      ⟨false, none, ⟨none, none, none⟩⟩ := by decide +kernel

/-- Section 6's sequence: a lowering move from 20 toward 90, 12 s on, stands at 40. -/
theorem test_trip_stands_at_the_travelled_position :
    let t := after (moving .travel .lower) (.trip false)
    t.drive.pos.bank1 = 40 ∧ t.drive.uncertain.bank1 = true ∧ t.out.motorDown = false := by decide +kernel

/-- R117: the move reaches 90 at its due time, 70 × 600 ms after its start. -/
theorem test_move_completes :
    let t := after (moving .travel .lower) .moveCompletion
    t.now = 10030000 ∧ t.drive.pos.bank1 = 90 ∧ t.drive.move = none := by decide +kernel

/-- Section 6's sequence: a homing of 65 s hands on to its TRAVEL phase toward 70. -/
theorem test_homing_hands_on :
    let t := after (moving (.homing ⟨70, .glare⟩) .raise) .homingEnd
    t.now = 10053000 ∧ t.drive.move = some ⟨.bank1, .travel, .lower, 0, 10053000, 70, .glare⟩ ∧ t.out.motorDown = true := by
  decide +kernel

/-- Section 2's sequence: an outer break opens the window, and an inner break 0.8 s later is an ENTRY that makes ADHOC. -/
theorem test_entry_makes_adhoc :
    let s := after node (.beamBreak .outer)
    let t := after { s with now := 10000800 } (.beamBreak .inner)
    s.evidence.window = some ⟨.outer, 10000000⟩ ∧ t.evidence.headcount = 1 ∧ t.evidence.window = none ∧
      t.room.occupancy = .adhoc := by decide +kernel

/-- R28: the window expires 1500 ms after its break, as evidence of that moment. -/
theorem test_window_expires :
    let t := after { node with evidence := { Evidence.powerOn with window := some ⟨.inner, 9999000⟩ } } .windowExpiry
    t.now = 10000500 ∧ t.evidence.lastEvidence = some 10000500 ∧ t.evidence.confirmMark = some 10000500 := by decide +kernel

/-- R30: the stuck timer marks its beam, and the release clears the mark. -/
theorem test_stuck_beam :
    let s := { node with evidence := { Evidence.powerOn with stuckDue := ⟨some 10000000, none⟩ }, pins := { Pins.atRest with broken := ⟨true, false⟩ } }
    let t := after s (.stuckTimerExpiry .outer)
    t.doorFault = true ∧ t.link.latches.sensorFault = some ⟨.sensorFault .door, 1, none⟩ ∧
      (after t (.beamRelease .outer)).doorFault = false := by decide +kernel

/-- R33: a pulse within 2 minutes of the confirmation mark makes ADHOC; one after it does not. -/
theorem test_pir_confirms_within_two_minutes :
    let s (m : Nat) := { node with evidence := { Evidence.powerOn with confirmMark := some m } }
    (after (s 9880000) .pirPulse).room.occupancy = .adhoc ∧ (after (s 9879999) .pirPulse).room.occupancy = .vacant := by
  decide +kernel

/-- R34 and R54: a hold of quiet with nobody counted releases a begun session. -/
theorem test_quiet_hold_declares_vacancy :
    let s := held .occupied
    let t := after { s with evidence := { s.evidence with headcount := 0 } } .vacancyHoldExpiry
    t.now = 10590000 ∧ t.room.occupancy = .released ∧ t.link.latches.release = some ⟨.release 77 .earlyLeave, 1, none⟩ := by
  decide +kernel

/-- R34: with people counted, vacancy waits for three holds. -/
theorem test_quiet_triple_hold_declares_vacancy :
    (after (held .occupied) .vacancyHoldExpiry).room.occupancy = .occupied ∧
      (after (held .occupied) .tripleHoldExpiry).room.occupancy = .released ∧
      (after (held .occupied) .tripleHoldExpiry).evidence.headcount = 0 := by decide +kernel

/-- R57: the overrun timer makes ADHOC. -/
theorem test_overrun_timer_makes_adhoc :
    let s := { node with room := { Room.powerOn with occupancy := .overrun, overrunScene := some 3, overrunDue := some 10000000 } }
    (after s .overrunTimerExpiry).room.occupancy = .adhoc ∧ (after s .overrunTimerExpiry).room.overrunScene = none := by
  decide +kernel

/-- R1 and R51: the minute of the lecture's end retires it into OVERRUN while evidence is fresh. -/
theorem test_minute_of_the_end_retires :
    let t := after { held .occupied with clock := ⟨1059, 10000000, true⟩ } .minuteBoundary
    t.clock.minute = 1060 ∧ t.room.occupancy = .overrun ∧ t.sessions.records = [] ∧
      t.link.latches.sessionEnd = some ⟨.sessionEnd 77 true, 1, none⟩ := by decide +kernel

/-- R1: after wing minute 94,371,839 comes minute 0. -/
theorem test_clock_wraps : (after { node with clock := ⟨94371839, 10000000, true⟩ } .minuteBoundary).clock.minute = 0 := by
  decide +kernel

/-- R2: day 0, minute 1010, second 59 puts the boundary one second on. -/
theorem test_time_sets_the_clock :
    (after node (.time (frm 1 2 [0, 0, 0xF2, 3, 59]))).clock = ⟨1010, 10001000, true⟩ ∧
      (after node (.time (frm 1 2 [0, 0, 0xA0, 5, 0]))).clock = node.clock := by decide +kernel

/-- Section 1's transfer: count 4 of generation 7 opens, and an index gap closes with 1 accepted, 2 remaining. -/
theorem test_transfer_opens_and_gaps :
    (after node (.ttBegin (frm 9 2 [7, 4, 0]))).sessions.transfer = some ⟨9, 7, 0, 4, 0, 10005000⟩ ∧
      (after { node with sessions := ⟨[], some ⟨9, 7, 2, 2, 1, 10005000⟩⟩ }
        (.ttEntry (frm 9 2 ([7, 3] ++ List.replicate 21 0)))).link.latches.ttDone =
        some ⟨.ttDone 7 1 2 .indexGap, 1, none⟩ := by decide +kernel

/-- An entry of room 500 for session 80, a SEMINAR of scene 2 from 1100 to 1200, lead 10, grace 10. -/
def entry80 : List Byte :=
  [7, 0, 0xF4, 1, 80, 0, 0x4C, 4, 0, 0, 0xB0, 4, 0, 0, 1, 2, 30, 0, 10, 10, 0, 0, 0]

/-- R20 and R19: a new session is placed after the current one. -/
theorem test_entry_is_placed :
    let s := held .occupied
    let t := after { s with sessions := ⟨[lecture], some ⟨9, 7, 0, 2, 0, 10005000⟩⟩ } (.ttEntry (frm 9 2 entry80))
    t.sessions.records.map (·.id) = [77, 80] ∧ t.sessions.transfer = some ⟨9, 7, 1, 1, 1, 10005000⟩ := by decide +kernel

/-- R25: silence closes the transfer as TIMEOUT. -/
theorem test_silence_times_out :
    (after { node with sessions := ⟨[], some ⟨9, 8, 0, 2, 0, 10005000⟩⟩ } .silenceTimerExpiry).link.latches.ttDone =
      some ⟨.ttDone 8 0 2 .timeout, 1, none⟩ := by decide +kernel

/-- R22: the current record's cancel retires it, overran no. -/
theorem test_cancel_retires :
    let t := after (held .occupied) (.ttCancel (frm 9 2 [77, 0]))
    t.sessions.records = [] ∧ t.link.latches.sessionEnd.map (·.detail) = some (.sessionEnd 77 false) := by decide +kernel

/-- Section 7's sequence: the debounced OPEN offers, and the retry falls 10 s later. -/
theorem test_partition_open_offers :
    let t := after { node with pins := { Pins.atRest with partOpen := true }, pair := { Pair.powerOn with debounceDue := some 10005000 } } .debounceExpiry
    t.pair.state = .offering ∧ t.pair.offerDue = some 10015000 ∧ (t.entryOf .pairCtrl).map (·.msg) = some (some .joinOffer) := by
  decide +kernel

/-- R131: a raw change starts the debounce. -/
theorem test_partition_change_debounces : (after node (.partChange true)).pair.debounceDue = some 10005000 := by decide +kernel

/-- Section 7's sequence: an OFFERING lower address leads on an offer of 400 and 6, and answers JOIN_ACCEPT. -/
theorem test_offer_is_joined :
    let t := after (paired .offering) (.joinOffer (frm 20 3 [0x90, 1, 6, 0]))
    t.pair.state = .joinedLead ∧ t.pair.combined = 6 ∧ (t.entryOf .pairCtrl).map (·.msg) = some (some .joinAccept) := by
  decide +kernel

/-- Section 7's sequence: an accept joins, a refusal latches PARTITION_MISMATCH. -/
theorem test_accept_joins_and_refusal_latches :
    (after (paired .offering) (.joinAccept (frm 20 3 [0x90, 1]))).pair.state = .joinedLead ∧
      (after (paired .offering) (.joinRefuse (frm 20 3 []))).link.latches.partitionMismatch =
        some ⟨.partitionMismatch 20 true, 1, none⟩ := by decide +kernel

/-- Section 7's sequence: a leave with the own partition open offers again. -/
theorem test_leave_offers_again :
    let t := after (paired .joinedLead) (.joinLeave (frm 20 3 []))
    t.pair.state = .offering ∧ t.pair.offerCount = 1 ∧ t.pair.offerDue = some 10010000 := by decide +kernel

/-- Section 7's sequence: a follower's SCENE 4, sequence 1, places a record of its source at the lead. -/
theorem test_forwarded_scene_is_placed :
    let t := after (paired .joinedLead) (.pairState (frm 20 3 [1, 6, 0, 1, 1, 4, 1]))
    t.pair.followerCount = 6 ∧ t.pair.lastSequence = some 1 ∧
      t.overrides.records.lightScene = some ⟨3, 20, 4, some 1120, none⟩ := by decide +kernel

/-- R132 and R144: the offer timer and the liveness timer. -/
theorem test_offer_and_liveness_timers :
    (after (paired .offering) .offerRetryExpiry).pair.offerCount = 2 ∧
      (after (paired .offering) .offerRetryExpiry).pair.offerDue = some 10015000 ∧
      (after (paired .joinedLead) .livenessExpiry).pair.state = .partnerLost := by decide +kernel

/-- R139: the pair status period queues PAIR_STATE. -/
theorem test_pair_status_period : (after (paired .joinedLead) .pairStatusPeriodExpiry).isQueued .pairState = true := by
  decide +kernel

/-- Section 8's sequence: console BLINDS 100 at level 1 for 30 minutes. -/
theorem test_override_is_placed :
    (after node (.override (frm 5 1 [0xF4, 1, 2, 0, 1, 100, 0, 30, 0]))).overrides.records.blinds =
      some ⟨1, 5, 100, some 1030, none⟩ := by decide +kernel

/-- R151 and R153: a CLEAR and a stale timer remove a record. -/
theorem test_override_is_removed :
    let s := { node with overrides := { Overrides.powerOn with records := ⟨none, none, some ⟨3, 0, 100, some 1120, some 10000000⟩, none, none⟩ } }
    (after s (.overrideClear (frm 5 1 [0xF4, 1, 2, 1, 1, 0, 0, 0, 0]))).overrides.records.blinds = none ∧
      (after s (.staleTimerExpiry .blinds)).overrides.records.blinds = none := by decide +kernel

/-- Section 8's sequence: SCENE 2 with no record current lasts two hours, and its indicator is accepted. -/
theorem test_scene_key :
    let t := after node (.sceneKey 2)
    t.overrides.records.lightScene = some ⟨3, 0, 2, some 1120, none⟩ ∧ t.light.scene = 2 ∧
      t.overrides.sending.map (·.accepted) = some true := by decide +kernel

/-- R155: LIGHT UP and LIGHT DOWN step the trim by 50, AIR BOOST takes the ceiling. -/
theorem test_level_and_boost_keys :
    (after node .lightUp).overrides.records.lightLevel.map (·.value) = some 50 ∧
      (after node .lightDown).overrides.records.lightLevel.map (·.value) = some (-50) ∧
      (after node .airBoostKey).overrides.records.airBoost.map (·.value) = some 100 := by decide +kernel

/-- R155 and R120: the blind keys, STOP at the current position of the bank in motion. -/
theorem test_blind_keys :
    (after node .blindsUp).overrides.records.blinds.map (·.value) = some 0 ∧
      (after node .blindsDown).overrides.records.blinds.map (·.value) = some 100 ∧
      (after (moving .travel .lower) .blindsStop).overrides.records.blinds.map (·.value) = some 40 := by decide +kernel

/-- R156 and R37: ROOM OFF removes the panel's records, and declares vacancy in ADHOC. -/
theorem test_room_off :
    let s := after { node with room := { Room.powerOn with occupancy := .adhoc } } (.sceneKey 2)
    (after s .roomOff).overrides.records.lightScene = none ∧ (after s .roomOff).room.occupancy = .vacant := by decide +kernel

/-- R157: the waiting indicator goes out when the one being sent ends. -/
theorem test_indicator_sent :
    let s := after (after node (.sceneKey 2)) (.sceneKey 3)
    s.overrides.indicatorWaiting.map (·.scene) = some 3 ∧ (after s .indicatorSent).overrides.sending.map (·.scene) = some 3 := by
  decide +kernel

/-- Section 8's sequence: SMOKE_HOLD 300, EVACUATE, and CLEAR. -/
theorem test_life_safety_frames :
    (after node (.lifeSafetySmokeHold (frm 5 0 [2, 0x2C, 1]))).out.dmp = 300 ∧
      (after node (.lifeSafetyEvacuate (frm 5 0 [1, 0, 0]))).out.dim1 = 1000 ∧
      (after (safety .evacuate) (.lifeSafetyClear (frm 5 0 [0, 0, 0]))).out.dim1 = 0 := by decide +kernel

/-- Section 6's sequence: the FIRE input cuts a lowering move at 40 and sends the bank to 0. -/
theorem test_fire_cuts_a_lowering_move :
    let t := after (moving .travel .lower) (.fireChange true)
    t.drive.pos.bank1 = 40 ∧ t.drive.move.map (·.target) = some 0 ∧ t.out.motorUp = true ∧ t.out.dim2 = 1000 := by
  decide +kernel

/-- Section 6's sequence: HOLD ON cuts the move and keeps its request, HOLD OFF grants it. -/
theorem test_hold :
    let s := after (moving .travel .lower) (.holdOn (frm 5 1 [10, 1]))
    s.drive.pos.bank1 = 40 ∧ s.drive.move = none ∧ s.drive.waiting.bank1 = some ⟨90, .glare⟩ ∧
      (after s (.holdOff (frm 5 1 [127, 0]))).drive.move.map (·.startPos) = some 40 := by decide +kernel

/-- R161 and R186: a RESTART to this station begins the read and stops the link. -/
theorem test_restart :
    let t := after (sending .demand 0) (.restart (frm 5 1 [10]))
    t.phase = .reading .softRestart 1 10000000 ∧ t.link.queue = [] ∧ t.link.attempt = none := by decide +kernel

/-- R180 and R165: a QUERY to all queues IDENTITY, a frame of an unassigned kind records its source. -/
theorem test_query_and_other_frame :
    (after node (.query (frm 5 3 [127, 0, 0]))).isQueued .identity = true ∧
      (after node (.otherFrame 0x30 (frm 5 3 []))).peers = [⟨5, 10000000, none, none⟩] := by decide +kernel

/-- R163: a frame whose CRC differs, and one left open on the idle line. -/
theorem test_discards_latch_link_fault :
    (after node (.frameDiscard [14, 0xC9, 0, 0, 0] false)).link.latches.linkFault = some ⟨.linkFault .crc 14, 1, none⟩ ∧
      (after node (.frameIdleTimeout [14] false)).link.latches.linkFault = some ⟨.linkFault .length 14, 1, none⟩ := by
  decide +kernel

/-- Section 9's occurrence during flight: the frame carries code, count and detail as its owner stands. -/
theorem test_attempt_sends_an_event_frame :
    let s := { node with link := { Link.powerOn with queue := [⟨.event .sensorFault, 0, false, none⟩], latches := { Link.powerOn.latches with sensorFault := some ⟨.sensorFault .door, 3, none⟩ } } }
    (after s .attemptStart).link.attempt.map (fun a => (a.bytes.take 7).drop 4) = some [7, 3, (Detail.sensorFault .door).bytes.getD 0 0] := by
  decide +kernel

/-- Section 9's occurrence during flight: a completion carries the later part on. -/
theorem test_completion_carries_the_later_part_on :
    let t := after (sending (.event .sessionBegin) 0) .transmitCompletion
    t.link.latches.sessionBegin = some ⟨.sessionBegin 78, 2, none⟩ ∧ t.link.queue = [⟨.event .sessionBegin, 0, false, none⟩] := by
  decide +kernel

/-- R171: the eighth collision abandons DEMAND, with the long pause and TX_ABANDONED of its code. -/
theorem test_eighth_collision_abandons :
    let t := after (sending .demand 7) .collision
    t.isQueued .demand = false ∧ t.link.longPause = some 10002000 ∧
      t.link.latches.txAbandoned.map (·.detail) = some (.txAbandoned 0x09 0) := by decide +kernel

/-- R169 and R171: the ends of the backoff and of the pause. -/
theorem test_backoff_and_pause_end :
    let s := { node with link := { Link.powerOn with backoff := some 3, longPause := some 10002000 } }
    (after s .backoffEnd).link.backoff = none ∧ (after s .longPauseEnd).link.longPause = none := by decide +kernel

/-- R93, R180, R80 and R91: the timers of the reports, the capacity and the pinch. -/
theorem test_report_timers :
    (after node .demandPeriodExpiry).isQueued .demand = true ∧ (after node .statusPeriodExpiry).isQueued .roomStatus = true ∧
      (after { shared with air := { shared.air with capacityKnown := true, capacityDue := some 10000000 } } .capacityTimerExpiry).air.grant = 300 ∧
      (after { shared with air := { shared.air with pinchTimer := .running 10000000, grant := 483 } } .pinchTimerExpiry).link.latches.airShort.map (·.detail) =
        some (.airShort 540 483) := by decide +kernel

/-- R82: a peer of the view that has aged past 3 × T_d leaves it, and the grant is formed afresh. -/
theorem test_view_age_check :
    let s := { shared with now := 10062000, air := { shared.air with capacityKnown := true, capacity := 900, view := [1, 2, 3] } }
    (after s .viewAgeCheck).air.view = [] ∧ (after s .viewAgeCheck).air.grant = 540 := by decide +kernel

/-- R182 and R183: the retry timer begins a new read. -/
theorem test_retry_begins_a_read :
    (after { State.reset with phase := .configFault 60020 } .configRetryExpiry).phase = .reading .retry 1 60020 := by decide +kernel

/-! ## States and operands that meet the statements' hypotheses

One theorem for each statement with hypotheses, named after it, its clauses in the statement's order. -/

theorem heard {s : State} {f : Frame}
    (h : s.isRunning = true ∧ f.overlapsOwn = false ∧ (1 ≤ f.src.toNat ∧ f.src.toNat ≤ 126) ∧ f.src.toNat ≠ s.cfg.station) :
    Heard s f := ⟨h.1, h.2.1, h.2.2.1, h.2.2.2⟩

theorem taken {s : State} {f : Frame} {n : Nat}
    (h : (s.isRunning = true ∧ f.overlapsOwn = false ∧ (1 ≤ f.src.toNat ∧ f.src.toNat ≤ 126) ∧ f.src.toNat ≠ s.cfg.station) ∧
      f.cls.toNat ≤ n) : Taken s f n := { heard h.1 with cls := h.2 }

theorem mayPlace {s : State} {q : Quantity}
    (h : (s.isRunning = true ∧ s.room.switchMarker = false ∧ s.lifeSafetyActive = false ∧ s.overrides.hold = false) ∧
      (s.overrides.records.get q).all (fun r => r.stale.isSome || 3 ≤ r.level) = true) : PanelMayPlace s q where
  running := h.1.1
  unmarked := h.1.2.1
  safety := h.1.2.2.1
  hold := h.1.2.2.2
  rank r hr hs := by have := h.2; simp_all

theorem witness_StepRunsTheFrontCommand :
    ({ node with line := [⟨0x96, false⟩] }.pending = [] ∧ { node with line := [⟨0x96, false⟩] }.line = ⟨0x96, false⟩ :: []) ∧
      node.pending = [] ∧ node.line = [] := by decide

theorem witness_StoppedBlocksTakeNoCommand :
    State.reset.isRunning = false ∧ Instr.actsWhileStopped .pirPulse = false := by decide

/-- The lecture, life-safety at rest and a queue of three reports, for the invariants: each holds here, and the pulse at the front of
the queue is a next state. -/
def busy : State :=
  { held .occupied with
    link := { Link.powerOn with queue := [⟨.demand, 0, false, none⟩, ⟨.roomStatus, 0, false, none⟩, ⟨.identity, 0, false, none⟩] }
    pending := [.pirPulse] }

/-- A step of `busy` answers a running next state. -/
theorem busy_steps : ∃ t, step busy = .next t ∧ t.isRunning = true := ⟨after { busy with pending := [] } .pirPulse, rfl, by decide +kernel⟩

theorem queue_ok_of_reports {s : State}
    (h : s.link.queue.length ≤ 8 ∧ (s.link.queue.Pairwise fun a b => urgency s.cfg a.kind < urgency s.cfg b.kind) ∧
      (∀ e ∈ s.link.queue, ∀ k ∈ EventKind.all, e.kind ≠ .event k) ∧ s.link.attempt = none ∧ s.link.receiver = none ∧
      (s.isRunning = true ∨ s.link.queue = [])) : QueueOk s where
  atMostEight := h.1
  inOrder := h.2.1
  latched e he k hk := absurd hk (h.2.2.1 e he k (by cases k <;> decide))
  maskDisabled a ha := by simp [h.2.2.2.1] at ha
  gathered g hg := by simp [h.2.2.2.2.1] at hg
  stopped hs := ⟨h.2.2.2.2.2.resolve_left (by simp [hs]), h.2.2.2.1, h.2.2.2.2.1⟩

theorem witness_TheReportQueueStaysInOrder :
    (QueueOk busy ∧ ∃ t, step busy = .next t ∧ t.isRunning = true) ∧
    (let s := { node with line := [⟨0x96, false⟩, ⟨5, false⟩] };
      QueueOk s ∧ ∃ t, step s = .next t ∧ t.link.receiver = some ⟨[], false⟩) :=
  ⟨⟨queue_ok_of_reports (by decide), busy_steps⟩, queue_ok_of_reports (by decide), _, rfl, by decide⟩

theorem room_ok {s : State}
    (h : (∀ r ∈ s.sessions.records, 1 ≤ r.id ∧ r.start < r.finish ∧ r.finish - r.start ≤ 600 ∧ r.finish ≤ maxMinute ∧
        r.expected ≤ 511 ∧ r.scene ≤ 7 ∧ r.lead ≤ 120 ∧ 5 ≤ r.grace ∧ r.grace ≤ 30) ∧
      s.sessions.records.length ≤ 16 ∧ (s.sessions.records.Pairwise fun a b => a.finish ≤ b.start ∧ a.id ≠ b.id) ∧
      (s.room.current = none ∨ s.sessions.records.head?.map (·.id) = s.room.current) ∧
      s.room.current.isSome = (!s.isFollower && s.room.occupancy.hasRecord) ∧
      s.room.overrunDue.isSome = (!s.isFollower && s.room.occupancy = .overrun) ∧
      s.room.overrunScene.isSome = s.room.overrunDue.isSome ∧
      (s.clock.timeValid = true ∨ s.room.occupancy = .vacant ∨ s.room.occupancy = .adhoc) ∧ s.room.switchMarker = false) :
    RoomOk s where
  ranges r hr := by
    have := h.1 r hr
    exact ⟨this.1, this.2.1, this.2.2.1, this.2.2.2.1, this.2.2.2.2.1, this.2.2.2.2.2.1, this.2.2.2.2.2.2.1, this.2.2.2.2.2.2.2⟩
  atMostSixteen := h.2.1
  apart := h.2.2.1
  earliest id hid := by simpa [hid] using h.2.2.2.1
  marked := h.2.2.2.2.1
  overrunTimed := h.2.2.2.2.2.1
  overrunHeld := h.2.2.2.2.2.2.1
  timeless ht _ := by simpa [ht] using h.2.2.2.2.2.2.2.1
  markerDown := h.2.2.2.2.2.2.2.2

theorem witness_TheSessionTableAndTheCurrentMarkStayConsistent : RoomOk busy ∧ ∃ t, step busy = .next t ∧ t.isRunning = true :=
  ⟨room_ok (by decide), busy_steps⟩
theorem witness_ThePairStaysConsistent : PairOk busy ∧ ∃ t, step busy = .next t ∧ t.isRunning = true :=
  ⟨{ reads := fun h => absurd rfl h, leads := fun h => absurd h (by decide), follows := fun h => absurd h (by decide)
     timed := by decide, paced := by decide, headcount := by decide, follower := by decide, combined := by decide
     formed := fun h => absurd h (by decide), apart := fun _ => by decide }, busy_steps⟩

theorem witness_TheBlindDriveStaysConsistent : DriveOk busy ∧ ∃ t, step busy = .next t ∧ t.isRunning = true :=
  ⟨{ glarePos := fun b => by cases b <;> decide, blinds := fun r h => absurd h (by simp [busy, held, node, State.reset, Overrides.powerOn])
     held := fun b t h => by cases b <;> simp [busy, Tests.held, node, State.reset, Shade.powerOn, PerBank.get] at h
     pos := fun b => by cases b <;> decide
     waiting := fun b t h => by cases b <;> simp [busy, Tests.held, node, State.reset, Drive.powerOn, PerBank.get] at h
     moving := fun m h => absurd h (by simp [busy, Tests.held, node, State.reset, Drive.powerOn])
     standing := fun _ => by decide, granted := fun _ _ b => by cases b <;> decide
     stopped := fun h => absurd h (by decide) }, busy_steps⟩

theorem safety_ok_of_off {s : State} (hl : s.overrides.lifeSafety = .off) (hf : formedMode s.overrides.frameMode s.pins.fire = .off)
    (hg : s.air.grant = 0) (hr : s.isRunning = true) (hs : s.shade.held = ⟨none, none, none⟩) : SafetyOk s where
  formed _ := hl.trans hf.symm
  lights _ h := by simp [State.lifeSafetyActive, hl] at h
  evacuate _ h := by simp [hl] at h
  smokeHold p _ h := by simp [hl] at h
  air _ h := by simp [State.lifeSafetyActive, hl] at h
  noClass _ := hg
  moving _ h := by simp [State.lifeSafetyActive, hl] at h
  waiting _ h := by simp [State.lifeSafetyActive, hl] at h
  held b t h := by cases b <;> simp [hs, PerBank.get] at h
  stopped h := by simp [hr] at h

theorem witness_LifeSafetyHoldsTheOutputs : SafetyOk busy ∧ ∃ t, step busy = .next t ∧ t.isRunning = true :=
  ⟨safety_ok_of_off (by decide) (by decide) (by decide) (by decide) (by decide), busy_steps⟩

theorem air_ok_of_zero {s : State} (hc : 50 ≤ s.cfg.mMax ∧ s.cfg.mMax ≤ 2000)
    (ha : s.air = Air.powerOn) (hd : s.out.dmp = 0 ∨ s.lifeSafetyActive = true) : AirOk s where
  mMax := hc
  floor := by simp [ha, Air.powerOn]
  demand := by simp [ha, Air.powerOn]
  airClass := by simp [ha, Air.powerOn]
  grant := by simp [ha, Air.powerOn]
  capacity := by simp [ha, Air.powerOn]
  known h := by simp [ha, Air.powerOn]
  unknown _ := by simp [ha, Air.powerOn]
  pinch := by simp [ha, Air.powerOn]
  safety _ _ := by simp [ha, Air.powerOn]
  damper _ h _ := by simp_all [Air.powerOn]

theorem witness_TheGrantStaysInItsBounds : AirOk busy ∧ ∃ t, step busy = .next t ∧ t.isRunning = true :=
  ⟨air_ok_of_zero (by decide) (by decide) (.inl (by decide)), busy_steps⟩

theorem witness_ThePeerTableStaysConsistent : PeersOk busy ∧ ∃ t, step busy = .next t ∧ t.isRunning = true :=
  ⟨{ atMost48 := by decide, distinct := by decide, addresses := by decide, pairPart := by decide
     stopped := fun h => absurd h (by decide) }, busy_steps⟩

theorem witness_TheLightsStayInRange : LightOk busy ∧ ∃ t, step busy = .next t ∧ t.isRunning = true :=
  ⟨{ scenes := by decide, front := by decide, rest := by decide, target := by decide, level := by decide, off := fun _ => by decide
     dims := by decide, carried := fun _ _ _ => by decide }, busy_steps⟩

theorem witness_TheOverrideRecordsStayInRange : OverridesOk busy ∧ ∃ t, step busy = .next t ∧ t.isRunning = true := by
  have none (q r) (h : busy.overrides.records.get q = some r) : False := by
    cases q <;> simp [busy, held, node, State.reset, Overrides.powerOn, PerQuantity.get] at h
  exact ⟨{ boost := by decide, level := fun q r h => (none q r h).elim, value := fun q r h => (none q r h).elim
           expiry := fun q r _ h => (none q r h).elim, stale := fun q r h => (none q r h).elim }, busy_steps⟩

theorem witness_FramesComeBackAsTheyWereSent :
    (126 < 256 ∧ 3 < 4 ∧ 63 < 64 ∧ (List.replicate 24 (0xFF#8)).length ≤ 24) ∧ 0 < 256 ∧ 0 < 4 ∧ 0 < 64 ∧ ([] : List Byte).length ≤ 24 := by
  decide

theorem witness_PayloadsOfTheNodeReadBack :
    (node.cfg.riser < 256 ∧ node.air.demand < 65536 ∧ node.air.floor < 65536 ∧ node.air.airClass < 256) ∧
    (node.cfg.mMax < 65536 ∧ (held .occupied).evidence.headcount < 65536) ∧
    (let s := { node with pair := { Pair.powerOn with forwarded := some ⟨.scene, 7⟩, sequence := 255 } };
      s.evidence.headcount ≤ 511 ∧ s.pair.sequence < 256 ∧ s.pair.forwarded = some ⟨.scene, 7⟩) ∧
    (node.carriedValues.scene ≤ 7 ∧ node.carriedValues.lightScene = none ∧ node.carriedValues.lightLevel = none ∧
      (held .occupied).sessionId = some 77 ∧ node.pair.combined ≤ 511) := by decide +kernel

theorem witness_FramesNotTakenHaveNoOtherEffect :
    (∀ f, Instr.asFrame (.time f) = some (f, 1, 2)) ∧
    (⟨5, 2, [], true⟩ : Frame).overlapsOwn = true ∧ (frm 0 2 []).src.toNat = 0 ∧ 126 < (frm 127 2 []).src.toNat ∧
    (frm 10 2 []).src.toNat = node.cfg.station ∧
    (Heard node (frm 126 3 []) ∧ 2 < (frm 126 3 []).cls.toNat) := by
  refine ⟨fun _ => rfl, ?_, ?_, ?_, ?_, heard ?_, ?_⟩ <;> decide

/-- A full queue: DEMAND in flight, six events and IDENTITY. -/
def crowded : State :=
  { node with
    link :=
      { Link.powerOn with
        queue :=
          [.demand, .event .sessionBegin, .event .sessionEnd, .event .release, .event .blindFault, .event .overrun, .roomStatus, .identity].map
            fun k => ⟨k, 0, false, none⟩
        attempt := some ⟨.demand, [], none, 540, 0, false, false, false, 0⟩
        latches :=
          { Link.powerOn.latches with
            sessionBegin := some ⟨.sessionBegin 1, 1, none⟩, sessionEnd := some ⟨.sessionEnd 1 false, 1, none⟩
            release := some ⟨.release 1 .noShow, 1, none⟩, blindFault := some ⟨.blindFault .bank1, 1, none⟩
            overrun := some ⟨.overrun 1, 1, none⟩ } } }

theorem witness_OtherFramesAndQueriesRecordTheirSource :
    (Heard shared (frm 1 3 []) ∧ ∃ p ∈ shared.peers, p.address = (frm 1 3 []).src.toNat) ∧
    (Heard shared (frm 9 3 []) ∧ (∀ p ∈ shared.peers, p.address ≠ (frm 9 3 []).src.toNat) ∧ shared.peers.length < 48) ∧
    (let s := { node with peers := fullPeers 9940000 };
      Heard s (frm 9 3 []) ∧ (∀ p ∈ s.peers, p.address ≠ (frm 9 3 []).src.toNat) ∧ 48 ≤ s.peers.length ∧
        ∀ p ∈ s.peers, s.silence p ≤ 3 * s.cfg.demandPeriod) ∧
    (let s := { node with peers := fullPeers 9939000 };
      Heard s (frm 9 3 []) ∧ (∀ p ∈ s.peers, p.address ≠ (frm 9 3 []).src.toNat) ∧ 48 ≤ s.peers.length ∧
        (∃ p ∈ s.peers, 3 * s.cfg.demandPeriod < s.silence p) ∧ ∀ p ∈ s.peers, p.address ≠ s.cfg.partner) ∧
    (let s := { node with peers := ⟨20, 9938000, none, some 400⟩ :: (fullPeers 9939000).tail };
      Heard s (frm 9 3 []) ∧ (∀ p ∈ s.peers, p.address ≠ (frm 9 3 []).src.toNat) ∧ 48 ≤ s.peers.length ∧
        (s.evictedBy 9).map (·.address) = some s.cfg.partner) ∧
    (Taken node (frm 9 3 [127, 0, 0]) 3 ∧ decodeQuery (frm 9 3 [127, 0, 0]).payload = some (127, 0) ∧ node.link.queue.length < 7) ∧
    (crowded.link.queue.tail.length < 8 ∧ crowded.losesPartnerMax 9 = false) ∧
    (Taken node (frm 9 3 [11, 0, 0]) 3 ∧ decodeQuery (frm 9 3 [11, 0, 0]).payload = some (11, 0) ∧ 11 ≠ node.cfg.station ∧
      0 ≠ node.cfg.room) := by
  refine ⟨⟨heard ?_, ?_⟩, ⟨heard ?_, ?_⟩, ⟨heard ?_, ?_⟩, ⟨heard ?_, ?_⟩, ⟨heard ?_, ?_⟩, ⟨taken ?_, ?_⟩, ?_, ⟨taken ?_, ?_⟩⟩ <;>
    decide +kernel

/-- The node gathering a frame. -/
def gathering (bytes : List Byte) (badStop : Bool) : State :=
  { node with link := { Link.powerOn with receiver := some ⟨bytes, badStop⟩ } }

theorem witness_DiscardedFramesLatchLinkFault :
    State.reset.isRunning = false ∧ (node.isRunning = true ∧ node.link.receiver = none ∧ (0x95#8) ≠ 0x96#8) ∧
    ((gathering [5, 0xC0] false).isRunning = true ∧ (gathering [5, 0xC0] false).link.receiver = some ⟨[5, 0xC0], false⟩ ∧
      (3 ≤ ([5, 0xC0] ++ [25#8]).length ∧ 24 < byteAt ([5, 0xC0] ++ [25#8]) 2) ∧
      ¬ (3 ≤ ([5, 0xC0] ++ [24#8]).length ∧
        (24 < byteAt ([5, 0xC0] ++ [24#8]) 2 ∨ byteAt ([5, 0xC0] ++ [24#8]) 2 + 5 ≤ ([5, 0xC0] ++ [24#8]).length))) ∧
    (3 ≤ ([5, 0xC0, 0, 1] ++ [2#8]).length ∧ byteAt ([5, 0xC0, 0, 1] ++ [2#8]) 2 + 5 ≤ ([5, 0xC0, 0, 1] ++ [2#8]).length) ∧
    (126 < 256 ∧ 3 < 4 ∧ 63 < 64 ∧ (List.replicate 24 (0x96#8)).length ≤ 24) ∧
    (frameFault [14, 0xC9, 25] false = some .length ∧ frameComplete [14, 0xC9, 24] = false ∧ 24 < byteAt [14, 0xC9, 25] 2) := by
  decide

/-- R163: the bytes of a QUERY to all, a stray byte before them, queue its command; a length field of 25 ends its frame at once. -/
theorem test_bytes_on_the_line_are_gathered :
    (((0x00#8 :: frameOnLine 9 3 0x20 [127, 0, 0]).map fun b => LineByte.mk b false).foldl State.hearByte node).pending =
        [.query (frm 9 3 [127, 0, 0])] ∧
      (([0x96#8, 9, 0xE0, 25].map fun b => LineByte.mk b false).foldl State.hearByte node).pending =
        [.frameDiscard [9, 0xE0, 25] false] := by decide +kernel

/-- R169: a collision ends the frame being gathered. -/
theorem test_collision_ends_the_gathering :
    (after { sending .demand 0 with link := { (sending .demand 0).link with receiver := some ⟨[9], false⟩ } } .collision).link.receiver =
      none := by decide +kernel

theorem witness_ResetAndReadAttemptsRunTheirCourse :
    { State.reset with phase := .inReset }.phase = .inReset ∧ State.reset.phase = .reading .powerOn 1 0 ∧
      { State.reset with phase := .reading .retry 3 20 }.phase = .reading .retry 3 20 ∧
      { State.reset with phase := .configFault 60020 }.phase = .configFault 60020 := by decide

/-- R184 and R70: with M_max of 200 the record holds an erased I at its default of 300, and a node alone is granted at most 200. -/
theorem test_erased_ceiling_over_a_small_maximum :
    let image : List Byte := faultyImage.take 7 ++ [200, 0] ++ List.replicate 119 255
    let s : State := { node with loader := loaderFrom image }
    (recordFrom image).isolated = 300 ∧ (loaderFrom image).firstClamped = none ∧ s.isolatedCeiling = 200 := by decide +kernel

/-- The faulty memory's fields at and outside their bounds: one erased with a default, one in range, one above and one below. -/
theorem witness_TheConfigurationRecordIsInRange :
    (∃ x ∈ numericFields (recordFrom faultyImage), x.index = 6 ∧ x.raw faultyImage = 65535 ∧ x.default.isSome = true) ∧
    (∃ x ∈ numericFields (recordFrom faultyImage), x.index = 5 ∧ x.lo ≤ x.raw faultyImage ∧ x.raw faultyImage ≤ x.hi) ∧
    (∃ x ∈ numericFields (recordFrom faultyImage), x.index = 20 ∧ x.hi < x.raw faultyImage) ∧
    ∃ x ∈ numericFields (recordFrom faultyImage), x.index = 22 ∧ x.raw faultyImage < x.lo := by decide +kernel

theorem witness_ACompletedReadBeginsRunningAfresh :
    State.reset.phase = .reading .powerOn 1 0 ∧ ReadCause.powerOn ≠ .softRestart ∧ (loaderFrom faultyImage).firstClamped = some 20 ∧
      (loaderFrom (faultyImage.take 7 ++ List.replicate 121 255)).firstClamped = none := by decide +kernel

/-- A node in the read of a soft restart, with a transfer that was open. -/
def restarting : State :=
  { node with phase := .reading .softRestart 2 10000010, sessions := ⟨[lecture], some ⟨9, 7, 1, 3, 1, 10004000⟩⟩ }

theorem witness_ACompletedReadEndsASoftRestart :
    restarting.phase = .reading .softRestart 2 10000010 ∧ QueueOk restarting ∧
      restarting.sessions.transfer = some ⟨9, 7, 1, 3, 1, 10004000⟩ := ⟨rfl, queue_ok_of_reports (by decide), rfl⟩

theorem witness_RestartStopsTheNodeAndReads :
    (Taken (moving .travel .lower) (frm 5 1 [10]) 1 ∧ decodeRestart (frm 5 1 [10]).payload = some 10 ∧
      (moving .travel .lower).drive.move.isSome = true) ∧
    (Taken node (frm 5 1 [11]) 1 ∧ decodeRestart (frm 5 1 [11]).payload = some 11 ∧ 11 ≠ node.cfg.station) := by
  refine ⟨⟨taken ?_, ?_⟩, taken ?_, ?_⟩ <;> decide

/-- The lecture before its begin: its B falls at minute 1000. -/
def opening : Session := { lecture with start := 1000, takenB := false, takenG := false }

/-- The node with its lecture about to begin, marked. -/
def atBegin : State := { held .precondition with sessions := ⟨[opening], none⟩ }

/-- A seminar that follows the lecture at once. -/
def following : Session := ⟨78, 1060, 1120, .seminar, .leaf, 20, 2, 15, 10, none, false, false, false, false⟩

theorem witness_MinuteBoundaryAdvancesTheClock :
    (node.isRunning = true ∧ node.clock.minute < maxMinute ∧
      ¬ { node with clock := ⟨94371839, 10000000, true⟩ }.clock.minute < maxMinute ∧
      { node with clock := ⟨94371838, 10000000, false⟩ }.clock.timeValid = false) ∧
    (restarting.isRunning = false ∧ ∃ n b, restarting.phase = .reading .softRestart n b) ∧
    (State.reset.isRunning = false ∧ ∀ n b, State.reset.phase ≠ .reading .softRestart n b) ∧
    (∀ p r, ¬ Due node p r) ∧
    (RoomOk atBegin ∧ atBegin.clock.timeValid = true ∧ Due atBegin .pointB opening ∧
      ∀ p' r', Due atBegin p' r' → pointRank .pointB < pointRank p' ∨ (p' = .pointB ∧ opening.start ≤ r'.start)) ∧
    (let s := { held .occupied with sessions := ⟨[lecture, following], none⟩, clock := ⟨1059, 10000000, true⟩ };
      s.isRunning = true ∧ RoomOk s ∧ s.clock.timeValid = true ∧ s.clock.minute < maxMinute ∧ s.currentRecord = some lecture ∧
        s.nextRecord = some following ∧ lecture.takenE = false ∧ lecture.finish = s.clock.minute + 1 ∧
        following.start = s.clock.minute + 1) := by
  refine ⟨by decide, ⟨by decide, _, _, rfl⟩, ⟨by decide, fun n b h => by simp [State.reset] at h⟩, fun p r h => ?_,
    ⟨room_ok (by decide), by decide, ⟨by decide, by decide, by decide⟩, fun p' r' h => ?_⟩, by decide, room_ok (by decide), by decide⟩
  · rcases h.1 with h | h <;> exact absurd h (by simp [node, State.reset, State.currentRecord, State.nextRecord, Sessions.powerOn, Room.powerOn])
  · have h1 : some opening = some r' := h.1.resolve_right (by simp [show atBegin.nextRecord = none by decide])
    cases h1
    obtain ⟨-, h2, h3⟩ := h
    cases p' <;> revert h2 h3 <;> decide

theorem witness_TimeFramesSetTheClockAndDerive :
    (Taken node (frm 1 2 [0, 0, 0xE8, 3, 59]) 2 ∧ decodeTime (frm 1 2 [0, 0, 0xE8, 3, 59]).payload = some ⟨0, 1000, 59⟩ ∧
      node.clock.timeValid = true ∧ 0 * 1440 + 1000 ≤ node.clock.minute) ∧
    (decodeTime (frm 1 2 [0, 0, 0xA0, 5, 0]).payload = some ⟨0, 1440, 0⟩ ∧ 1439 < 1440) ∧
    (let s := { held .adhoc with clock := ⟨0, 10060000, false⟩, room := { Room.powerOn with occupancy := .adhoc } };
      Taken s (frm 1 2 [0, 0, 0xE8, 3, 0]) 2 ∧ decodeTime (frm 1 2 [0, 0, 0xE8, 3, 0]).payload = some ⟨0, 1000, 0⟩ ∧
        s.clock.timeValid = false ∧ s.isFollower = false ∧ s.room.occupancy = .adhoc) ∧
    (let s := { paired .joinedFollow with clock := ⟨0, 10060000, false⟩ };
      Taken s (frm 1 2 [0, 0, 0x9F, 5, 59]) 2 ∧ decodeTime (frm 1 2 [0, 0, 0x9F, 5, 59]).payload = some ⟨0, 1439, 59⟩ ∧
        s.clock.timeValid = false ∧ s.isFollower = true) ∧
    (Taken node (frm 1 2 [0, 0, 0xE9, 3, 59]) 2 ∧ decodeTime (frm 1 2 [0, 0, 0xE9, 3, 59]).payload = some ⟨0, 1001, 59⟩ ∧
      node.clock.timeValid = true ∧ 0 * 1440 + 1001 = node.clock.minute + 1 ∧ 1000 * 59 ≤ node.now) ∧
    (Taken node (frm 1 2 [0, 0, 0x9F, 5, 59]) 2 ∧ (frm 1 2 [0, 0, 0xE9, 3, 59]).src = (frm 1 2 [0, 0, 0x9F, 5, 59]).src ∧
      node.clock.minute ≤ 0 * 1440 + 1001 ∧ 0 * 1440 + 1001 ≤ 0 * 1440 + 1439 ∧
      ∃ t, exec (.time (frm 1 2 [0, 0, 0xE9, 3, 59])) node = .next t) := by
  refine ⟨⟨taken ?_, ?_⟩, ?_, ⟨taken ?_, ?_⟩, ⟨taken ?_, ?_⟩, ⟨taken ?_, ?_⟩, ⟨taken ?_, ?_, ?_, ?_, _, rfl⟩⟩ <;> decide

/-- The node with a transfer of generation 7 open from station 9, next index 0. -/
def transferring (remaining : Nat) : State := { node with sessions := ⟨[], some ⟨9, 7, 0, remaining, 0, 10005000⟩⟩ }

theorem witness_TransfersBeginAndTimeOut :
    (Taken (transferring 2) (frm 9 2 [8, 0, 0]) 2 ∧ decodeTtBegin (frm 9 2 [8, 0, 0]).payload = some ⟨8, 0, false⟩ ∧
      (transferring 2).sessions.transfer = some ⟨9, 7, 0, 2, 0, 10005000⟩) ∧
    (let s := { held .occupied with clock := ⟨1000, 10060000, false⟩ };
      Taken s (frm 9 2 [8, 32, 1]) 2 ∧ decodeTtBegin (frm 9 2 [8, 32, 1]).payload = some ⟨8, 32, true⟩ ∧
        s.clock.timeValid = false) ∧
    (let s := held .occupied;
      Taken s (frm 9 2 [8, 32, 1]) 2 ∧ s.clock.timeValid = true ∧
        (s.sessions.records.filter fun r => r.start ≤ s.clock.minute ∨ s.room.current = some r.id) = [lecture] ∧
        RoomOk s ∧ s.room.occupancy = .occupied) ∧
    ((transferring 2).isRunning = true ∧ (transferring 2).sessions.transfer = some ⟨9, 7, 0, 2, 0, 10005000⟩) := by
  refine ⟨⟨taken ?_, ?_⟩, ⟨taken ?_, ?_⟩, ⟨taken ?_, ?_, ?_, room_ok ?_, ?_⟩, ?_⟩ <;> decide

/-- The fields of `entry80`. -/
def fields80 : TtEntryFields := ⟨7, 0, 500, 80, 1100, 1200, 1, 2, 30, 10, 10, false, 0, 0⟩

/-- The record of `entry80`. -/
def record80 : Session := ⟨80, 1100, 1200, .seminar, .leaf, 30, 2, 10, 10, none, false, false, false, false⟩

theorem witness_TransferEntriesAreCountedAndMerged :
    (Taken node (frm 9 2 entry80) 2 ∧ decodeTtEntry (frm 9 2 entry80).payload = some fields80 ∧ node.sessions.transfer = none) ∧
    ((frm 8 2 entry80).src.toNat ≠ 9) ∧
    (let s := { node with sessions := ⟨[], some ⟨9, 7, 1, 2, 0, 10005000⟩⟩ };
      Taken s (frm 9 2 entry80) 2 ∧ s.sessions.transfer = some ⟨9, 7, 1, 2, 0, 10005000⟩ ∧ fields80.index ≠ 1) ∧
    (let s := { transferring 1 with loader := ⟨{ settings with room := 501 }, false, none⟩ };
      Taken s (frm 9 2 entry80) 2 ∧ s.entryScope fields80.room = none) ∧
    (Taken (transferring 2) (frm 9 2 entry80) 2 ∧ (transferring 2).entryScope fields80.room = some .leaf ∧
      { fields80 with session := 0 }.session? .leaf = none ∧ fields80.session? .leaf = some record80 ∧
      (transferring 2).recordOf 80 = none ∧ (transferring 2).room.current = none) ∧
    (let s := { transferring 2 with clock := ⟨1200, 10060000, true⟩ };
      s.clock.timeValid = true ∧ record80.finish ≤ s.clock.minute) ∧
    (let s := { transferring 2 with clock := ⟨0, 10060000, false⟩ };
      s.clock.timeValid = false ∧ s.sessions.records.length < 16 ∧
        ∃ h ∈ [{ record80 with id := 81, start := 1199, finish := 1300 }], h.start < record80.finish ∧ record80.start < h.finish) ∧
    (Taken (transferring 1) (frm 9 2 entry80) 2 ∧ (transferring 1).entryScope fields80.room = some .leaf ∧ MoreToCome (transferring 2)) ∧
    (600 < { fields80 with finish := 1701 }.finish - fields80.start ∧ { fields80 with finish := 1701 }.session? .leaf = none ∧
      ({ fields80 with finish := 1700, prefPresent := true, prefPolicy := 2, trim := -301 }.session? .leaf).bind (·.pref) =
        some ⟨-300, .project⟩) := by
  refine ⟨⟨taken ?_, ?_⟩, ?_, ⟨taken ?_, ?_⟩, ⟨taken ?_, ?_⟩, ⟨taken ?_, ?_⟩, ?_, ?_, ⟨taken ?_, ?_, _, rfl, ?_⟩, ?_⟩ <;> decide +kernel

/-- R24: the last entry, merged or refused, closes the transfer as COMPLETE with the accepted count that takes it in. -/
theorem test_last_entry_completes :
    (∀ p ∈ [(0, 1), (1200, 0)],
      let t := after { transferring 1 with clock := ⟨p.1, 10060000, true⟩ } (.ttEntry (frm 9 2 entry80))
      t.sessions.transfer = none ∧ t.link.latches.ttDone.map (·.detail) = some (.ttDone 7 p.2 0 .complete)) := by decide +kernel

/-- The transfer of generation 7 that `transferring 2` holds. -/
def transfer2 : Transfer := ⟨9, 7, 0, 2, 0, 10005000⟩

theorem offered80 {s : State}
    (h : ((s.isRunning = true ∧ (frm 9 2 entry80).overlapsOwn = false ∧
        (1 ≤ (frm 9 2 entry80).src.toNat ∧ (frm 9 2 entry80).src.toNat ≤ 126) ∧ (frm 9 2 entry80).src.toNat ≠ s.cfg.station) ∧
        (frm 9 2 entry80).cls.toNat ≤ 2) ∧ s.sessions.transfer = some transfer2 ∧ s.entryScope 500 = some .leaf) :
    EntryOffered s (frm 9 2 entry80) record80 where
  taken := taken h.1
  offered := ⟨fields80, transfer2, .leaf, by decide +kernel, h.2.1, by decide, by decide, by decide, h.2.2, by decide +kernel⟩

/-- Sixteen one-after-another records of ten minutes, from a minute on. -/
def sixteen (start : Nat) : List Session :=
  (List.range 16).map fun i => { record80 with id := 100 + i, start := start + 20 * i, finish := start + 20 * i + 10 }

/-- The node with `transfer2` open, a table, a state with its mark, and a wing minute. -/
def offering (records : List Session) (o : Occupancy) (mark : Option Nat) (minute : Nat) : State :=
  { node with
    sessions := ⟨records, some transfer2⟩, room := { Room.powerOn with occupancy := o, current := mark }
    clock := ⟨minute, 10060000, true⟩ }

/-- The record of `entry80` as it was before, running to 1150. -/
def running80 : Session := { record80 with finish := 1150, takenA := true, takenB := true }

theorem witness_EntriesAreMergedIntoTheTable :
    -- The running record is refused, updated, and retired.
    (let s := offering [{ running80 with start := 1090 }] .occupied (some 80) 1110;
      RoomOk s ∧ EntryOffered s (frm 9 2 entry80) record80 ∧ s.room.occupancy = .occupied ∧
        s.currentRecord = some { running80 with start := 1090 } ∧ 1090 ≠ record80.start) ∧
    (let s := offering [{ running80 with takenG := true }] .released (some 80) 1110;
      RoomOk s ∧ EntryOffered s (frm 9 2 entry80) record80 ∧ s.room.occupancy.runs = true ∧ s.nextRecord = none ∧
        s.clock.minute < record80.finish) ∧
    (let s := offering [running80] .expected (some 80) 1200;
      RoomOk s ∧ EntryOffered s (frm 9 2 entry80) record80 ∧ s.room.occupancy.runs = true ∧ s.nextRecord = none ∧
        record80.finish ≤ s.clock.minute) ∧
    -- A new one is PAST, OVERLAP against a held record and against a running one, and FULL.
    (let s := offering [{ running80 with takenB := false }] .precondition (some 80) 1200;
      RoomOk s ∧ EntryOffered s (frm 9 2 entry80) record80 ∧ s.room.occupancy.runs = false ∧
        (s.clock.timeValid = true ∧ record80.finish ≤ s.clock.minute) ∧ s.room.current = some record80.id) ∧
    (let s := offering [{ running80 with id := 81, start := 1199, finish := 1300 }] .vacant none 1000;
      RoomOk s ∧ EntryOffered s (frm 9 2 entry80) record80 ∧ s.room.current = none ∧ ¬ record80.finish ≤ s.clock.minute ∧
        ∃ h ∈ s.sessions.records.filter (fun h => h.id ≠ record80.id), h.start < record80.finish ∧ record80.start < h.finish) ∧
    (let s := offering [{ running80 with id := 81, start := 1200, finish := 1300 }] .expected (some 81) 1000;
      RoomOk s ∧ EntryOffered s (frm 9 2 entry80) record80 ∧ s.room.current ≠ some record80.id ∧ s.room.occupancy.runs = true ∧
        s.currentRecord.any (fun c => record80.start < c.start) = true) ∧
    (let s := offering (sixteen 600) .vacant none 1000;
      RoomOk s ∧ EntryOffered s (frm 9 2 entry80) record80 ∧ s.room.current = none ∧
        16 ≤ (s.sessions.records.filter fun h => h.id ≠ record80.id).length ∧
        (s.sessions.records.getLast?.any fun l => l.start < record80.start) = true) ∧
    -- It is placed, with and without an eviction, and where it moves the mark.
    (let s := offering (sixteen 1300) .vacant none 1000;
      RoomOk s ∧ EntryOffered s (frm 9 2 entry80) record80 ∧ s.room.current = none ∧
        16 ≤ (s.sessions.records.filter fun h => h.id ≠ record80.id).length ∧
        s.sessions.records.getLast?.any (fun l => l.start < record80.start) = false ∧
        ∀ h ∈ insertSession record80 s.sessions.records.dropLast, s.clock.minute < h.start - h.lead) ∧
    (let s := offering [{ running80 with takenB := false }] .precondition (some 80) 1099;
      RoomOk s ∧ EntryOffered s (frm 9 2 entry80) record80 ∧ s.room.occupancy = .precondition ∧ s.room.current = some record80.id ∧
        record80.start - record80.lead ≤ s.clock.minute ∧ s.clock.minute < record80.start) ∧
    (let s := offering [{ running80 with id := 81, start := 1200, finish := 1300, takenB := false }] .precondition (some 81) 1150;
      RoomOk s ∧ EntryOffered s (frm 9 2 entry80) record80 ∧ s.room.occupancy = .precondition ∧
        ((insertSession record80 s.sessions.records).head?.map (·.id)) ≠ some 81 ∧ record80.start + record80.grace ≤ s.clock.minute ∧
        s.clock.minute < 1200 - 10) := by
  refine ⟨⟨room_ok ?_, offered80 ?_, ?_⟩, ⟨room_ok ?_, offered80 ?_, ?_⟩, ⟨room_ok ?_, offered80 ?_, ?_⟩,
    ⟨room_ok ?_, offered80 ?_, ?_⟩, ⟨room_ok ?_, offered80 ?_, ?_⟩, ⟨room_ok ?_, offered80 ?_, ?_⟩, ⟨room_ok ?_, offered80 ?_, ?_⟩,
    ⟨room_ok ?_, offered80 ?_, ?_⟩, ⟨room_ok ?_, offered80 ?_, ?_⟩, ⟨room_ok ?_, offered80 ?_, ?_⟩⟩ <;> decide +kernel

/-- R20 and R71: the PRECONDITION record re-placed under its id with another attendance reaches the air at once: 40 + 10 × 15. -/
theorem test_replaced_mark_is_handed_on :
    let s := (offering [{ running80 with takenB := false, expected := 10 }] .precondition (some 80) 1099).evaluate
    let t := after s (.ttEntry (frm 9 2 entry80))
    s.air.demand = 90 ∧ t.room.occupancy = .precondition ∧ t.air.demand = 190 := by decide +kernel

theorem witness_CancelledSessionsLeaveTheTable :
    (Taken (held .occupied) (frm 9 2 [78, 0]) 2 ∧ decodeTtCancel (frm 9 2 [78, 0]).payload = some 78 ∧
      (held .occupied).recordOf 78 = none) ∧
    (let s := { held .occupied with sessions := ⟨[lecture, following], none⟩ };
      Taken s (frm 9 2 [78, 0]) 2 ∧ (s.recordOf 78).isSome = true ∧ s.room.current ≠ some 78 ∧ s.clock.timeValid = true ∧
        ∀ h ∈ s.sessions.records, h.id ≠ 78 → s.room.current = some h.id) ∧
    (Taken (held .occupied) (frm 9 2 [77, 0]) 2 ∧ (held .occupied).currentRecord = some lecture ∧
      (held .occupied).room.current = some 77 ∧ RoomOk (held .occupied)) := by
  refine ⟨⟨taken ?_, ?_⟩, ⟨taken ?_, ?_⟩, taken ?_, ?_, ?_, room_ok ?_⟩ <;> decide

theorem witness_PointsOfTheCurrentRecordAct :
    (∀ o ∈ [Occupancy.precondition, .expected, .occupied, .released],
      (held o).isFollower = false ∧ (held o).currentRecord = some lecture ∧ (held o).room.occupancy = o ∧ (held o).fresh = true) ∧
    (∀ o ∈ [Occupancy.vacant, .adhoc, .overrun],
      let s := { held o with room := { Room.powerOn with occupancy := o } };
      s.isFollower = false ∧ s.recordOf lecture.id = some lecture ∧ s.room.current ≠ some lecture.id ∧ s.room.occupancy = o) ∧
    (∀ o ∈ [Occupancy.precondition, .expected, .occupied, .released],
      let s := { held o with sessions := ⟨[lecture, following], none⟩ };
      s.isFollower = false ∧ s.recordOf following.id = some following ∧ s.room.current ≠ some following.id ∧
        s.currentRecord = some lecture ∧ s.room.occupancy = o) ∧
    (paired .joinedFollow).isFollower = true ∧ (held .expected).room.current ≠ some 78 ∧
    (held .occupied).suppressedBy = none := by decide

/-- R153 and R61: the E of a quiet room leaves VACANT and removes the level-3 record that its switch marks, not one of level 1. -/
theorem test_switch_marks_and_vacancy_removes :
    let s := { held .expected with
      evidence := Evidence.powerOn
      overrides := { Overrides.powerOn with records := ⟨some ⟨3, 0, 2, none, none⟩, some ⟨1, 5, 50, none, none⟩, none, none, none⟩ } }
    let t := s.deliver .pointE 77
    let u := (held .occupied).deliver .pointE 77
    t.room.occupancy = .vacant ∧ t.overrides.records = ⟨none, some ⟨1, 5, 50, none, none⟩, none, none, none⟩ ∧
      t.isQueued .roomStatus = true ∧ u.room.occupancy = .overrun ∧
      ({ held .occupied with overrides := s.overrides }.deliver .pointE 77).overrides.records.lightScene =
        some ⟨3, 0, 2, none, some 10900000⟩ := by decide +kernel

/-- The node with one record that is next, and a wing minute. -/
def upcoming (n : Session) (minute : Nat) : State :=
  { node with sessions := ⟨[n], none⟩, clock := ⟨minute, 10060000, true⟩ }

/-- The points of a record that are late. -/
def lateOf (s : State) (n : Session) : List Point :=
  [Point.pointA, .pointB, .pointG].filter fun p => !n.taken p && decide (n.minuteOf p ≤ s.clock.minute)

theorem witness_LatePointsAreDeliveredAtOnce :
    (node.nextRecord = none ∧ { upcoming record80 1000 with clock := ⟨0, 10060000, false⟩ }.clock.timeValid = false) ∧
    (∀ m ∈ [1000, 1090, 1100, 1110],
      let s := upcoming record80 m;
      s.nextRecord = some record80 ∧ s.clock.timeValid = true ∧ s.room.current = none ∧ s.isFollower = false ∧ s.fresh = false) ∧
    (∀ m, m ∈ [1000, 1090, 1100, 1110] → RoomOk (upcoming record80 m)) ∧
    (lateOf (upcoming record80 1000) record80 = [] ∧ lateOf (upcoming record80 1090) record80 = [.pointA] ∧
      lateOf (upcoming record80 1100) record80 = [.pointA, .pointB] ∧
      lateOf (upcoming record80 1110) record80 = [.pointA, .pointB, .pointG]) ∧
    (let s := { upcoming record80 1110 with evidence := { Evidence.powerOn with lastEvidence := some 9990000 } };
      s.fresh = true ∧ lateOf s record80 = [.pointA, .pointB, .pointG]) ∧
    (let s := { held .released with sessions := ⟨[lecture, following], none⟩, clock := ⟨1045, 10060000, true⟩ };
      RoomOk s ∧ s.room.occupancy = .released ∧ s.nextRecord = some following ∧ lateOf s following = [.pointA] ∧
        s.currentRecord = some lecture) ∧
    (let s := { held .occupied with sessions := ⟨[lecture, following], none⟩, clock := ⟨1045, 10060000, true⟩ };
      RoomOk s ∧ s.room.occupancy = .occupied ∧ s.nextRecord = some following ∧ lateOf s following = [.pointA]) := by
  refine ⟨by decide, by decide, fun m hm => ?_, by decide, by decide, ⟨room_ok (by decide), by decide⟩, room_ok (by decide), by decide⟩
  simp only [List.mem_cons, List.not_mem_nil, or_false] at hm
  obtain rfl | rfl | rfl | rfl := hm <;> exact room_ok (by decide)

/-- R12 and R48: A and B late together make one handling, from VACANT to EXPECTED. -/
theorem test_late_a_and_b_together :
    let t := (upcoming record80 1100).armNext
    t.room.occupancy = .expected ∧ t.room.current = some 80 ∧ t.link.latches.sessionBegin = some ⟨.sessionBegin 80, 1, none⟩ := by
  decide +kernel

/-- The node with one beam broken and its stuck timer running, stuck or not. -/
def broken (b : Beam) (stuck : Bool) : State :=
  { node with
    pins := { Pins.atRest with broken := Pins.atRest.broken.set b true }
    evidence :=
      { Evidence.powerOn with
        stuckDue := Evidence.powerOn.stuckDue.set b (some 10000000), stuckMark := Evidence.powerOn.stuckMark.set b stuck } }

theorem witness_MotionAndDoorBeamsAreEvidence :
    ((held .vacant).isRunning = true ∧ (held .vacant).isFollower = false ∧ (held .vacant).room.occupancy = .vacant ∧
      ((held .vacant).evidence.confirmMark.any fun m => (held .vacant).now - m ≤ 120000) = true) ∧
    (node.isRunning = true ∧ node.pins.broken.get .inner = false ∧ node.doorFault = false ∧ node.evidence.window = none) ∧
    (let s := { node with evidence := { Evidence.powerOn with window := some ⟨.outer, 9999000⟩, headcount := 511 } };
      s.pins.broken.get .inner = false ∧ (∃ w, s.evidence.window = some w ∧ w.beam = .outer) ∧
        ∃ w, s.evidence.window = some w ∧ w.beam ≠ .inner) ∧
    ((broken .outer true).doorFault = true ∧ (broken .outer true).pins.broken.get .inner = false ∧
      (broken .outer true).evidence.stuckMark.get .inner = false) ∧
    (let s := { broken .inner true with pins := Pins.atRest };
      s.doorFault = true ∧ s.pins.broken.get .inner = false ∧ s.evidence.stuckMark.get .inner = true) ∧
    ((broken .inner false).pins.broken.get .inner = true ∧ (broken .inner false).doorFault = false) ∧
    ((broken .inner true).pins.broken.get .inner = true ∧ (broken .inner true).doorFault = true ∧
      (after (broken .inner true) (.beamRelease .inner)).doorFault = false) ∧
    ((broken .inner false).evidence.stuckDue.get .inner = some 10000000 ∧ (broken .inner false).doorFault = false) ∧
    (let s := { broken .inner false with
        evidence := { (broken .inner false).evidence with window := some ⟨.outer, 9999000⟩, confirmMark := some 9880000 } };
      s.isRunning = true ∧ s.evidence.stuckDue.get .inner = some 10000000 ∧ s.doorFault = false ∧ s.evidence.window.isSome = true ∧
        s.isFollower = false ∧ s.room.occupancy = .vacant ∧ (s.evidence.confirmMark.any fun m => s.now - m ≤ 120000) = true) ∧
    { node with evidence := { Evidence.powerOn with window := some ⟨.outer, 9999000⟩ } }.evidence.window = some ⟨.outer, 9999000⟩ := by
  refine ⟨?_, ?_, ⟨?_, ⟨_, rfl, rfl⟩, ⟨_, rfl, ?_⟩⟩, ?_⟩ <;> decide +kernel

/-- An occupied examination, quiet since a time. -/
def sitting (last headcount : Nat) : State :=
  { held .occupied with
    sessions := ⟨[{ lecture with kind := .exam }], none⟩
    evidence := { Evidence.powerOn with headcount := headcount, lastEvidence := some last, holdPassed := true } }

/-- R36: an examination cancelled at three holds of quiet, and at one with nobody counted, is followed by vacancy; a cancelled one
with people counted is not. -/
theorem test_cancelled_examination_is_tested :
    (after (sitting 8200000 42) (.ttCancel (frm 9 2 [77, 0]))).evidence.headcount = 0 ∧
      (after (sitting 9400000 0) (.ttCancel (frm 9 2 [77, 0]))).evidence.lastEvidence = none ∧
      (after (sitting 9400000 42) (.ttCancel (frm 9 2 [77, 0]))).evidence.headcount = 42 := by decide +kernel

theorem witness_ExaminationsEnd :
    (∀ p ∈ [(8200000, 42), (8200001, 42), (9400000, 0), (9400001, 0)],
      let s := sitting p.1 p.2;
      let u := s.handle fun x => x.retire false;
      s.suppressedBy ≠ none ∧ u.suppressedBy ≠ s.suppressedBy ∧ u.cfg = s.cfg ∧ u.evidence.lastEvidence = some p.1) ∧
    (let s := sitting 8200000 42;
      Taken s (frm 9 2 [77, 0]) 2 ∧ decodeTtCancel (frm 9 2 [77, 0]).payload = some 77 ∧ RoomOk s ∧
        s.currentRecord = some { lecture with kind := .exam } ∧ s.room.occupancy = .occupied ∧ 3 * 600000 ≤ s.now - 8200000) := by
  refine ⟨?_, taken ?_, ?_, room_ok ?_, ?_⟩ <;> decide +kernel

theorem witness_QuietTimeAndOverrunTimerAct :
    (let s := held .adhoc;
      s.isRunning = true ∧ s.evidence.lastEvidence = some 9990000 ∧ s.evidence.holdPassed = false ∧
        s.evidence.triplePassed = false ∧ s.suppressedBy = none ∧ s.testedHeadcount ≠ 0) ∧
    (let s := { node with evidence := { Evidence.powerOn with lastEvidence := some 9400000 } };
      s.suppressedBy = none ∧ s.testedHeadcount = 0) ∧
    (let s := { held .occupied with sessions := ⟨[{ lecture with kind := .exam }], none⟩ };
      s.suppressedBy ≠ none) ∧
    (let s := { node with room := { Room.powerOn with occupancy := .overrun, overrunScene := some 3, overrunDue := some 10000000 } };
      s.room.overrunDue = some 10000000 ∧ s.room.occupancy = .overrun) := by decide

theorem witness_Co2SamplesAreTaken :
    node.isRunning = true ∧ 60 ≤ (60#10).toNat ∧ (1000#10).toNat ≤ 1000 ∧ (59#10).toNat < 60 ∧ 1000 < (1001#10).toNat ∧
      node.evidence.co2Fault = false := by decide

theorem witness_PhotocellSamplesStepTheLoop :
    node.isRunning = true ∧ (1022#10).toNat < 1023 ∧ (1023#10).toNat = 1023 ∧ node.evidence.photo.fault = false ∧
      node.evidence.photo.run = none ∧ node.lifeSafetyActive = false ∧ node.overrides.hold = false ∧
      (safety .evacuate).lifeSafetyActive = true ∧
      { node with overrides := { Overrides.powerOn with hold := true } }.overrides.hold = true ∧
      (let r : FullScaleRun := ⟨9940000, some 470⟩;
        let s := { node with evidence := { Evidence.powerOn with photo := ⟨some 2046, some r, false, 0⟩ } };
        s.evidence.photo.run = some r ∧ 60000 ≤ max s.now s.evidence.photo.sampleDue - r.firstAt ∧
          max { s with now := 9999999 }.now 0 - r.firstAt < 60000) ∧
      { node with evidence := { Evidence.powerOn with photo := ⟨some 470, none, true, 0⟩ } }.evidence.photo.fault = true := by decide

theorem witness_IrradianceSetsAndClearsGlare :
    (node.isRunning = true ∧ (1022#10).toNat < 1023 ∧ node.shade.glare = false ∧ node.cfg.glareThreshold < (293#10).toNat * 6 / 5 ∧
      (292#10).toNat * 6 / 5 ≤ node.cfg.glareThreshold) ∧
    (let s := { node with shade := ⟨true, some 10600000, ⟨none, none, none⟩⟩ };
      s.shade.glare = true ∧ s.cfg.glareThreshold - s.cfg.hysteresis ≤ (225#10).toNat * 6 / 5 ∧
        (224#10).toNat * 6 / 5 < s.cfg.glareThreshold - s.cfg.hysteresis ∧ s.shade.dwellDue = some 10600000) ∧
    ((1023#10).toNat = 1023 ∧ node.evidence.irrad.fault = false ∧ node.evidence.irrad.run = none) ∧
    (let r : FullScaleRun := ⟨9940000, some 470⟩;
      let s := { node with evidence := { Evidence.powerOn with irrad := ⟨some 1227, some r, false, 0⟩ } };
      s.evidence.irrad.run = some r ∧ 60000 ≤ max s.now s.evidence.irrad.sampleDue - r.firstAt ∧
        max { s with now := 9999999 }.now 0 - r.firstAt < 60000) ∧
    { node with evidence := { Evidence.powerOn with irrad := ⟨some 470, none, true, 0⟩ } }.evidence.irrad.fault = true := by decide

/-- R106: the declaring reading stops the dwell and leaves the flag. -/
theorem test_irradiance_fault_stops_the_dwell :
    let t := after { node with
      shade := ⟨true, some 10600000, ⟨none, none, none⟩⟩
      evidence := { Evidence.powerOn with irrad := ⟨some 1227, some ⟨9940000, some 470⟩, false, 0⟩ } } (.irradianceSample 1023)
    t.evidence.irrad.held = some 470 ∧ t.shade = ⟨true, none, ⟨none, none, none⟩⟩ := by decide +kernel

/-- A room whose readers have taken it: the lecture occupied, its scene, its blinds and its demand in use. -/
def settled : State := { (held .occupied).relight.reshade.evaluate with pending := [.pirPulse] }

theorem views_ok {s : State}
    (h : s.light.scene = s.activeNumber ∧ (s.light.front = s.activeScene.front ∧ s.light.rest = s.activeScene.rest ∧
        s.light.policy = s.activeScene.policy) ∧ s.light.loopTarget = s.formTarget s.light.rest ∧
      (∀ b ∈ [Bank.bank1, .bank2, .bank3], s.shade.held.get b = s.bankTarget b) ∧ s.pair.handed = s.carriedValues) : ViewsOk s where
  scene _ := h.1
  fields _ := h.2.1
  target _ _ := h.2.2.1
  held _ b := h.2.2.2.1 b (by cases b <;> simp)
  handed _ := h.2.2.2.2

theorem witness_LightsAndBlindsFollowTheRoom :
    (∀ o ∈ [Occupancy.vacant, .precondition, .expected, .occupied, .released, .overrun, .adhoc],
      (held o).isFollower = false ∧ (held o).lifeSafetyActive = false ∧ (held o).room.occupancy = o) ∧
    ((paired .joinedFollow).isFollower = true ∧ (safety .evacuate).lifeSafetyActive = true) ∧
    (let s := { paired .joinedLead with shade := ⟨true, none, ⟨none, none, none⟩⟩ };
      s.isLead = true ∧ s.reshade.pair.handed ≠ s.pair.handed ∧ QueueOk s ∧ ∀ k, 1 ≤ (s.cfg.events.get k).priority) ∧
    (RoomOk settled ∧ ViewsOk settled ∧ ∃ t, step settled = .next t ∧ t.isRunning = true) :=
  ⟨by decide, by decide, ⟨by decide, by decide +kernel, queue_ok_of_reports (by decide), fun k => by cases k <;> decide⟩,
    room_ok (by decide +kernel), views_ok (by decide +kernel), after { settled with pending := [] } .pirPulse, rfl, by decide +kernel⟩

/-- R97, R99 and R107: the lecture's scene 3 in EXPECTED, its rest target with the trims, and its policy over the scene's. -/
theorem test_scene_in_expected :
    let s := { held .expected with
      sessions := ⟨[{ lecture with pref := some ⟨-50, .project⟩ }], none⟩
      overrides := { Overrides.powerOn with records := ⟨none, some ⟨3, 0, 100, some 1060, none⟩, none, none, none⟩ } }
    let t := s.relight.reshade
    t.light.scene = 3 ∧ t.light.front = 0 ∧ t.light.loopTarget = 550 ∧ t.pair.handed.policy = .project ∧
      t.shade.held = ⟨some ⟨0, .scene⟩, some ⟨0, .scene⟩, some ⟨100, .scene⟩⟩ := by decide +kernel

theorem witness_TheOwnRecordHasItsFloorAndClass :
    ((safety .evacuate).lifeSafetyActive = true ∧ node.lifeSafetyActive = false ∧ node.overrides.records.airBoost = none ∧
      (after node .airBoostKey).overrides.records.airBoost.isSome = true ∧ (after node .airBoostKey).lifeSafetyActive = false) ∧
    ClassOk settled ∧ ∃ t, step settled = .next t ∧ t.isRunning = true :=
  ⟨by decide +kernel,
    { safety := fun _ h => absurd h (by decide +kernel), floor := fun _ _ _ => by decide +kernel
      boost := fun _ _ h => absurd h (by decide +kernel), room := fun _ _ _ => by decide +kernel },
    after { settled with pending := [] } .pirPulse, rfl, by decide +kernel⟩

theorem witness_TheOwnRecordHasItsDemand :
    ((held .occupied).lifeSafetyActive = false ∧ (held .occupied).isJoined = false ∧ (held .occupied).doorFault = false ∧
      (held .occupied).evaluate.air.airClass ≠ (held .occupied).air.airClass ∧ (held .occupied).link.queue.length < 8) ∧
    ((paired .joinedLead).lifeSafetyActive = false ∧ (paired .joinedLead).isJoined = true) ∧
    (let s := { held .occupied with evidence := { (held .occupied).evidence with stuckMark := ⟨true, false⟩ } };
      s.lifeSafetyActive = false ∧ s.doorFault = true) ∧
    (let s := { settled with air := { settled.air with lastPublished := some 441 } };
      s.lifeSafetyActive = false ∧ s.evaluate.air.airClass = s.air.airClass ∧ s.evaluate.air.demand = s.air.demand) := by
  decide +kernel

/-- R74 and R75: a leaf of 600 beside a partner of 400 counts 60 of 100 people, and 30 of a JOINED session's 50 expected. -/
theorem test_joined_leaf_share :
    let s := { paired .joinedLead with
      peers := [⟨20, 10000000, none, some 400⟩]
      pair := { (paired .joinedLead).pair with combined := 100 } }
    { s with room := { Room.powerOn with occupancy := .adhoc } }.evaluate.air.demand = 600 ∧
      { s with room := { Room.powerOn with occupancy := .adhoc }, pair := { s.pair with combined := 10 } }.evaluate.air.demand = 100 ∧
      { s with sessions := ⟨[{ lecture with scope := .joined }], none⟩
               room := { Room.powerOn with occupancy := .expected, current := some 77 } }.evaluate.air.demand = 340 := by
  decide +kernel

theorem witness_TheDamperFollowsTheGrant :
    (shared.lifeSafetyActive = false ∧ shared.overrides.hold = false) ∧ (safety .evacuate).lifeSafetyActive = true ∧
    (AirOk busy ∧ ∃ t, exec .pirPulse busy = .next t ∧ t.isRunning = true ∧ t.lifeSafetyActive = false ∧ t.overrides.hold = false) :=
  ⟨by decide, by decide, air_ok_of_zero (by decide) (by decide) (.inl (by decide)), after busy .pirPulse, rfl, by decide +kernel⟩

/-- `shared` with its class and a capacity known. -/
def sharing (airClass capacity : Nat) : State :=
  { shared with air := { shared.air with airClass := airClass, capacityKnown := true, capacity := capacity } }

/-- The floors of the view of `shared`, the own one among them. -/
def sharedFloors : Nat :=
  shared.air.floor + (((shared.peers.filterMap (·.demandPart)).filter fun p =>
    p.riser = shared.cfg.riser ∧ 1 ≤ p.airClass ∧ p.airClass ≤ 3 ∧
      min 65535 ((shared.now - p.writtenAt) / 1000) ≤ 3 * shared.cfg.demandPeriod).map (·.floor)).sum

theorem witness_TheGrantIsItsShare :
    (node.air.airClass = 0 ∧ shared.air.capacityKnown = false ∧ shared.air.airClass ≠ 0) ∧ sharedFloors = 200 ∧
    ((sharing 3 200).air.capacityKnown = true ∧ (sharing 3 200).air.airClass = 3 ∧ (sharing 3 200).air.capacity ≤ sharedFloors) ∧
    -- Class 3 has extras of 480 + 340 = 820, class 2 own or of B, class 1 of C none.
    (sharedFloors < (sharing 3 1020).air.capacity ∧ 480 + 340 ≤ 1020 - sharedFloors ∧ 1019 - sharedFloors < 480 + 340) ∧
    (sharedFloors < (sharing 2 900).air.capacity ∧ (sharing 2 900).air.airClass = 2) ∧
    (sharedFloors < (sharing 1 900).air.capacity ∧ (sharing 1 900).air.airClass = 1) := by decide

/-- R84 and R85 worked by hand on `shared`: 819 left for the extras of 820 give 60 + 480 × 819 / 820; in class 2 A takes its 340 first,
and 360 are left for 480 + 260; in class 1 B takes its 260 of those too, and 100 are left for 480. -/
theorem test_shares_by_class :
    (sharing 3 1019).recompute.air.grant = 539 ∧ (sharing 3 1020).recompute.air.grant = 540 ∧
      (sharing 3 150).recompute.air.grant = 45 ∧ (sharing 2 900).recompute.air.grant = 293 ∧
      (sharing 1 900).recompute.air.grant = 160 := by decide +kernel

theorem witness_CapacityAndDemandFramesRecompute :
    (Taken shared (frm 8 2 [4, 0x20, 0x4E, 0]) 2 ∧ decodeCapacity (frm 8 2 [4, 0x20, 0x4E, 0]).payload = some ⟨4, 20000, true⟩ ∧
      4 = shared.cfg.riser) ∧
    (decodeCapacity (frm 8 2 [5, 0, 0, 1]).payload = some ⟨5, 0, false⟩ ∧ 5 ≠ shared.cfg.riser) ∧
    ({ shared with air := { shared.air with capacityDue := some 10000000 } }.air.capacityDue = some 10000000) ∧
    (Taken shared (frm 1 3 [4, 4, 1, 60, 0, 3]) 3 ∧ decodeDemand (frm 1 3 [4, 4, 1, 60, 0, 3]).payload = some ⟨4, 260, 60, 3⟩ ∧
      (∃ p ∈ shared.peers, p.address = (frm 1 3 [4, 4, 1, 60, 0, 3]).src.toNat)) ∧
    (shared.isRunning = true ∧ shared.viewIsStale = false ∧
      { shared with now := 10061000, air := { shared.air with view := [1, 2, 3] } }.viewIsStale = true) ∧
    -- Address 4 has left the table.
    (let s := { shared with air := { shared.air with view := [1, 2, 3, 4] } };
      ∃ a ∈ s.air.view, ∀ p ∈ s.peers, p.address = a → ∀ d, p.demandPart = some d → 3 * s.cfg.demandPeriod < s.ageOf d.writtenAt) := by
  refine ⟨⟨taken ?_, ?_⟩, ?_, ?_, ⟨taken ?_, ?_⟩, ?_, 4, by decide, fun p hp h => ?_⟩
  rotate_right
  · revert p; decide
  all_goals decide +kernel

theorem witness_ReportTimersQueueTheirReports :
    node.isRunning = true ∧ node.link.queue.length < 8 ∧ (paired .joinedLead).pair.periodDue = some 10030000 ∧
      { shared with air := { shared.air with pinchTimer := .running 10000000 } }.air.pinchTimer = .running 10000000 ∧
      (shared.air.episode = false ∧ shared.recompute.air.grant < shared.air.demand ∧ shared.air.airClass = 3) ∧
      (let s := { shared with air := { shared.air with episode := true } };
        s.air.episode = true ∧ s.recompute.air.grant < s.air.demand ∧ s.air.airClass = 3) := by decide +kernel

theorem witness_MovesEndAtTargetsOrTrips :
    ((moving .travel .lower).isRunning = true ∧
      (moving .travel .lower).drive.move = some ⟨.bank1, .travel, .lower, 20, 9988000, 90, .glare⟩ ∧
      (moving .travel .lower).drive.waiting = ⟨none, none, none⟩) ∧
    (let s := moving (.homing ⟨0, .glare⟩) .raise;
      s.drive.move = some ⟨.bank1, .homing ⟨0, .glare⟩, .raise, 20, 9988000, 90, .glare⟩ ∧ s.drive.waiting = ⟨none, none, none⟩) ∧
    (moving (.homing ⟨70, .glare⟩) .raise).drive.move = some ⟨.bank1, .homing ⟨70, .glare⟩, .raise, 20, 9988000, 90, .glare⟩ := by
  decide

/-- The node on hold with bank 1 moving under SAFETY from 90 toward 0, as life-safety has left it. -/
def homeward (p : Phase) : State :=
  { node with
    overrides := { Overrides.powerOn with hold := true }
    drive := ⟨⟨90, 0, 0⟩, ⟨false, false, false⟩, ⟨none, none, none⟩, some ⟨.bank1, p, .raise, 90, 9988000, 0, .safety⟩⟩
    out := ⟨0, 0, 0, true, false, .bank1⟩ }

/-- R126: during hold a request of origin OVERRIDE cuts the SAFETY move, here after 12 s at 70, and waits. -/
theorem test_request_cuts_safety_move_in_hold :
    let t := (homeward .travel).requestBank .bank1 ⟨50, .override⟩
    t.drive = ⟨⟨70, 0, 0⟩, ⟨false, false, false⟩, ⟨some ⟨50, .override⟩, none, none⟩, none⟩ ∧ t.out.motorUp = false := by decide +kernel

theorem witness_RequestsAreGrantedOrRetargetTheMove :
    (let s := { node with drive := { Drive.powerOn with waiting := ⟨none, some ⟨70, .glare⟩, some ⟨100, .glare⟩⟩ } };
      s.drive.move = none ∧ s.pins.btrip = false ∧ s.overrides.hold = false ∧ s.drive.waiting.get .bank2 = some ⟨70, .glare⟩ ∧
        s.standsAt .bank2 ⟨70, .glare⟩ = false ∧
        (∀ b' y, s.drive.waiting.get b' = some y →
          y.origin.rank < Origin.rank .glare ∨ (y.origin.rank = Origin.rank .glare ∧ Bank.number .bank2 ≤ b'.number)) ∧
        s.drive.uncertain.get .bank2 = true) ∧
    (let s := moving .travel .lower;
      let m : Move := ⟨.bank1, .travel, .lower, 20, 9988000, 90, .glare⟩;
      s.drive.move = some m ∧ m.phase = .travel ∧ s.lifeSafetyActive = false ∧ s.overrides.hold = false ∧ s.pins.btrip = false ∧
        s.drive.waiting = ⟨none, none, none⟩ ∧ s.drive.uncertain.get m.bank = false ∧ s.cutPosition m = 40) ∧
    ((safety .evacuate).lifeSafetyActive = true ∧ Origin.glare ≠ .safety) ∧
    (let s := { moving .travel .lower with drive := { (moving .travel .lower).drive with move := none } };
      s.lifeSafetyActive = false ∧ s.drive.move = none ∧ s.drive.uncertain.get .bank1 = false ∧ s.drive.pos.get .bank1 = 20 ∧
        s.overrides.hold = false ∧ s.pins.btrip = false) ∧
    ((moving .travel .lower).drive.move.isSome = true ∧ (moving .travel .lower).drive.pos.get .bank2 ≠ 50) ∧
    (let s := moving (.homing ⟨70, .glare⟩) .raise;
      s.drive.move = some ⟨.bank1, .homing ⟨70, .glare⟩, .raise, 20, 9988000, 90, .glare⟩ ∧ s.lifeSafetyActive = false ∧
        s.overrides.hold = false) ∧
    (let s := { node with
        pins := { Pins.atRest with btrip := true }, drive := { Drive.powerOn with waiting := ⟨none, some ⟨70, .glare⟩, none⟩ } };
      s.drive.move = none ∧ s.pins.btrip = true ∧ s.overrides.hold = false ∧ s.drive.waiting.get .bank2 = some ⟨70, .glare⟩ ∧
        s.drive.waiting.get .bank1 = none ∧ s.drive.waiting.get .bank3 = none ∧ s.standsAt .bank2 ⟨70, .glare⟩ = false) ∧
    ((homeward (.homing ⟨0, .safety⟩)).drive.move.map (·.origin) = some .safety ∧
      (homeward .travel).drive.move.map (·.origin) = some .safety ∧ (homeward .travel).overrides.hold = true ∧
      (homeward .travel).lifeSafetyActive = false ∧ (homeward .travel).drive.waiting = ⟨none, none, none⟩) := by
  refine ⟨⟨?_, ?_, ?_, ?_, ?_, fun b' y h => ?_, ?_⟩, ?_⟩
  all_goals try decide +kernel
  cases b' <;> simp only [PerBank.get, Option.some.injEq, reduceCtorEq] at h <;> subst h <;> decide

theorem maySendPairCtrl {s : State}
    (h : (s.link.queue.length ≤ 8 ∧ (s.link.queue.Pairwise fun a b => urgency s.cfg a.kind < urgency s.cfg b.kind) ∧
        (∀ e ∈ s.link.queue, ∀ k ∈ EventKind.all, e.kind ≠ .event k) ∧ s.link.attempt = none ∧ s.link.receiver = none ∧
        (s.isRunning = true ∨ s.link.queue = [])) ∧ ∀ k ∈ EventKind.all, 1 ≤ (s.cfg.events.get k).priority) : MaySendPairCtrl s :=
  ⟨queue_ok_of_reports h.1, fun k => h.2 k (by cases k <;> decide)⟩

theorem witness_ThePartitionIsDebounced :
    (node.isRunning = true ∧ node.pins.partOpen ≠ true) ∧
    (let s := { node with pins := { Pins.atRest with partOpen := true }, pair := { Pair.powerOn with debounceDue := some 10005000 } };
      s.pair.debounceDue = some 10005000 ∧ s.pins.partOpen = true ∧ s.pair.readsOpen = false ∧ s.pair.state = .single ∧
        s.isDivisible = true) ∧
    (∀ p ∈ [PairState.offering, .joinedLead, .joinedFollow, .partnerLost],
      let s := { paired p with pair := { (paired p).pair with debounceDue := some 10005000 } };
      s.isRunning = true ∧ s.pins.partOpen = false ∧ s.pair.readsOpen = true ∧ s.pair.state ≠ .single ∧
        s.pair.debounceDue = some 10005000) ∧
    (MaySendPairCtrl (paired .joinedLead) ∧ (paired .joinedLead).isLead = true ∧ (paired .joinedFollow).isFollower = true) :=
  ⟨by decide, by decide, by decide, maySendPairCtrl (by decide), by decide⟩

theorem witness_OffersRepeatAndLivenessEnds :
    ((paired .offering).isRunning = true ∧ (paired .offering).pair.offerDue = some 10005000 ∧
      (paired .partnerLost).pair.state = .partnerLost ∧ (paired .partnerLost).pair.offerDue = some 10005000) ∧
    (∀ p ∈ [PairState.joinedLead, .joinedFollow],
      (paired p).isRunning = true ∧ (paired p).isJoined = true ∧ (paired p).pair.livenessDue = some 10090000) := by decide

theorem witness_JoinOffersAreAnswered :
    (Taken node (frm 20 3 [0x90, 1, 0xFF, 1]) 3 ∧ decodeJoinOffer (frm 20 3 [0x90, 1, 0xFF, 1]).payload = some (400, 511)) ∧
    (frm 21 3 []).src.toNat ≠ node.cfg.partner ∧
    (node.isDivisible = true ∧ (frm 20 3 []).src.toNat = node.cfg.partner ∧ node.peers.length < 48 ∧ node.pair.state = .single ∧
      node.pair.readsOpen = false ∧ node.link.queue.length ≤ 5) ∧
    ((paired .offering).pair.state ≠ .joinedLead ∧ (paired .offering).pair.readsOpen = true ∧ roleOf settings = .joinedLead ∧
      roleOf { settings with station := 21 } = .joinedFollow) ∧
    (let s := { paired .offering with pair := { (paired .offering).pair with readsOpen := false } };
      s.pair.state = .offering ∧ s.pair.readsOpen = false) ∧
    (paired .joinedLead).pair.state = .joinedLead ∧ (paired .joinedFollow).pair.state = .joinedFollow ∧
    MaySendPairCtrl (paired .joinedLead) := by
  refine ⟨⟨taken ?_, ?_⟩, ?_, ?_, ?_, ?_, ?_, ?_, maySendPairCtrl ?_⟩ <;> decide

theorem witness_AcceptsRefusalsAndLeavesAreTaken :
    (Taken (paired .offering) (frm 20 3 [0x90, 1]) 3 ∧ decodeJoinAccept (frm 20 3 [0x90, 1]).payload = some 400 ∧
      (paired .offering).isDivisible = true ∧ (frm 20 3 [0x90, 1]).src.toNat = (paired .offering).cfg.partner ∧
      (paired .offering).pair.state = .offering) ∧
    (Taken (paired .partnerLost) (frm 20 3 []) 3 ∧ (paired .partnerLost).pair.state = .partnerLost) ∧
    (Taken (paired .joinedLead) (frm 20 3 []) 3 ∧ (paired .joinedLead).isJoined = true ∧ (paired .joinedLead).pair.readsOpen = true ∧
      MaySendPairCtrl (paired .joinedLead)) ∧
    (let s := { paired .partnerLost with pair := { (paired .partnerLost).pair with readsOpen := false } };
      Taken s (frm 20 3 []) 3 ∧ s.pair.state = .partnerLost ∧ s.pair.readsOpen = false) ∧
    (Taken node (frm 20 3 []) 3 ∧ node.pair.state = .single) ∧
    (Taken node (frm 21 3 []) 3 ∧ (frm 21 3 []).src.toNat ≠ node.cfg.partner) := by
  refine ⟨⟨taken ?_, ?_⟩, ⟨taken ?_, ?_⟩, ⟨taken ?_, ?_, ?_, maySendPairCtrl ?_⟩, ⟨taken ?_, ?_⟩, ⟨taken ?_, ?_⟩, taken ?_, ?_⟩ <;> decide

/-- R68 and R142: a former follower derives its state from the table that it has kept. -/
theorem test_former_follower_derives :
    let s := { held .occupied with pair := (paired .joinedFollow).pair }
    let t := after { s with room := { s.room with current := none, mirroredId := some 5 } } (.joinLeave (frm 20 3 []))
    t.pair.state = .offering ∧ t.room.occupancy = .occupied ∧ t.room.current = some 77 ∧ t.room.mirroredId = none ∧
      (t.entryOf .pairCtrl).map (·.msg) = some (some .joinOffer) := by decide +kernel

/-- A lead's PAIR_STATE: OCCUPIED, session 77, scene 3, 20 people, FOLLOW_GLARE, no override. -/
def leadBytes : List Byte := [0, BitVec.ofNat 8 (Occupancy.code .occupied), 77, 0, 3, 20, 0, 0, 0xFF, 0, 0x80]

/-- A follower's PAIR_STATE: 255 people, evidence, and scene key 7 under sequence 255. -/
def followBytes : List Byte := [1, 0xFF, 1, 1, 1, 7, 255]

/-- A lead with a LIGHT_SCENE record. -/
def leading (r : OverrideRecord) : State :=
  { paired .joinedLead with overrides := { Overrides.powerOn with records := ⟨some r, none, none, none, none⟩ } }

theorem witness_PairStatesAreTaken :
    (Taken (paired .joinedLead) (frm 20 3 followBytes) 3 ∧ (paired .joinedLead).isDivisible = true ∧
      (frm 20 3 []).src.toNat = (paired .joinedLead).cfg.partner ∧ (paired .joinedLead).pair.state = .joinedLead ∧
      pairStateRole (frm 20 3 followBytes).payload = some 1) ∧
    ((decodeFollow (frm 20 3 followBytes).payload).forwarded = some ⟨.scene, 7⟩ ∧
      (decodeFollow (frm 20 3 followBytes).payload).sequence = 255 ∧
      (paired .joinedLead).pair.lastSequence ≠ some (decodeFollow (frm 20 3 followBytes).payload).sequence ∧
      (paired .joinedLead).room.switchMarker = false ∧ (paired .joinedLead).lifeSafetyActive = false ∧
      (paired .joinedLead).overrides.hold = false) ∧
    (let s := { paired .joinedLead with pair := { (paired .joinedLead).pair with lastSequence := some 255 } };
      s.pair.lastSequence = some (decodeFollow (frm 20 3 followBytes).payload).sequence) ∧
    (let s := { paired .joinedLead with overrides := { Overrides.powerOn with frameMode := .evacuate, lifeSafety := .evacuate } };
      s.pair.state = .joinedLead ∧ s.lifeSafetyActive = true) ∧
    { paired .joinedLead with overrides := { Overrides.powerOn with hold := true } }.overrides.hold = true ∧
    ((((leading ⟨1, 5, 2, none, none⟩).overrides.records.get .lightScene).filter fun r => r.stale.isNone) = some ⟨1, 5, 2, none, none⟩ ∧
      ((leading ⟨3, 0, 2, none, some 10000000⟩).overrides.records.get .lightScene).filter (fun r => r.stale.isNone) = none) ∧
    (Taken (paired .joinedFollow) (frm 20 3 leadBytes) 3 ∧ (paired .joinedFollow).pair.state = .joinedFollow ∧
      pairStateRole (frm 20 3 leadBytes).payload = some 0 ∧
      decodeLead (frm 20 3 leadBytes).payload = some ⟨.occupied, some 77, 20, ⟨3, none, none, .followGlare, false⟩⟩) ∧
    (pairStateRole (frm 20 3 (List.replicate 11 0)).payload = some 0 ∧
      decodeLead (frm 20 3 [0, 7, 0, 0, 0, 0, 0, 0, 0xFF, 0, 0x80]).payload = none) ∧
    (Taken (paired .partnerLost) (frm 20 3 leadBytes) 3 ∧ (pairStateRole (frm 20 3 leadBytes).payload).isSome = true) ∧
    (Taken (paired .joinedLead) (frm 21 3 followBytes) 3 ∧ (frm 21 3 followBytes).src.toNat ≠ (paired .joinedLead).cfg.partner) ∧
    (pairStateRole (frm 20 3 leadBytes).payload ≠ some 1 ∧ pairStateRole (frm 20 3 followBytes).payload ≠ some 0 ∧
      pairStateRole (frm 20 3 []).payload = none) := by
  refine ⟨⟨taken ?_, ?_⟩, ?_, ?_, ?_, ?_, ?_, ⟨taken ?_, ?_⟩, ?_, ⟨taken ?_, ?_⟩, ⟨taken ?_, ?_⟩, ?_⟩ <;> decide +kernel

/-- R143 and R150: a forwarded request is refused by a higher record, and a repeated sequence number is not handed on. -/
theorem test_forwarded_request_refused_and_repeated :
    (after (leading ⟨1, 5, 2, none, none⟩) (.pairState (frm 20 3 followBytes))).link.latches.overrideRefused.map (·.detail) =
        some (.overrideRefused 20 (.quantity .lightScene) .outranked) ∧
      (let s := after (after (paired .joinedLead) (.pairState (frm 20 3 followBytes))) .roomOff;
        s.overrides.records.lightScene = none ∧
          (after s (.pairState (frm 20 3 followBytes))).overrides.records.lightScene = none) := by decide +kernel

theorem witness_OverridesAreTestedPlacedAndCleared :
    (Taken node (frm 5 2 [0xF4, 1, 0, 0, 3, 7, 0, 60, 0]) 2 ∧
      decodeOverride (frm 5 2 [0xF4, 1, 0, 0, 3, 7, 0, 60, 0]).payload = some ⟨500, 0, false, 3, 7, 60⟩ ∧
      Quantity.ofCode 0 = some .lightScene ∧ (0 ≤ (7 : Int) ∧ (7 : Int) ≤ 7) ∧ 500 = node.cfg.room ∧ node.lifeSafetyActive = false ∧
      (frm 5 2 []).cls.toNat ≤ 3) ∧
    ((safety .evacuate).lifeSafetyActive = true) ∧
    (¬ ((frm 5 2 []).cls.toNat ≤ 1 ∧ (Quantity.blinds = .holdVacant → 1 ≤ 1))) ∧
    (let s := { node with overrides := { Overrides.powerOn with records := ⟨some ⟨1, 5, 2, none, none⟩, none, none, none, none⟩ } };
      ∃ h, s.overrides.records.get .lightScene = some h ∧ h.stale = none ∧ h.level < 3) ∧
    (Taken node (frm 5 1 [0xF4, 1, 4, 1, 1, 0, 0, 0, 0]) 2 ∧
      decodeOverride (frm 5 1 [0xF4, 1, 4, 1, 1, 0, 0, 0, 0]).payload = some ⟨500, 4, true, 1, 0, 0⟩ ∧
      Quantity.ofCode 4 = some .holdVacant ∧ (frm 5 1 []).cls.toNat ≤ 1 ∧ node.overrides.records.get .holdVacant = none) ∧
    (501 ≠ node.cfg.room ∧ 501 ≠ node.cfg.pairRoom ∧ Quantity.ofCode 5 = none ∧
      (∃ v, decodeOverride [0xF4, 1, 2, 0, 4, 50, 0, 60, 0] = some v ∧ 3 < v.level) ∧
      ∀ p ∈ [[0xF4, 1, 0, 0, 3, 8, 0, 60, 0], [0xF4, 1, 0, 0, 3, 0xFF, 0xFF, 60, 0]],
        ∃ v, decodeOverride p = some v ∧ v.clear = false ∧ Quantity.ofCode v.quantity = some .lightScene ∧ (v.value < 0 ∨ 7 < v.value)) ∧
    (let s := { node with overrides := { Overrides.powerOn with records := ⟨none, none, some ⟨3, 0, 100, some 1120, some 10000000⟩, none, none⟩ } };
      s.isRunning = true ∧ s.overrides.records.get .blinds = some ⟨3, 0, 100, some 1120, some 10000000⟩) := by
  refine ⟨⟨taken ?_, ?_⟩, ?_, ?_, ⟨_, rfl, ?_⟩, ⟨taken ?_, ?_⟩, ?_, ?_⟩ <;> decide

/-- The node with life-safety active, with hold on, or with a record of level 1 for a quantity. -/
def refusing (q : Quantity) : RefusalReason → State
  | .safety => safety .evacuate
  | .held => { node with overrides := { Overrides.powerOn with hold := true } }
  | .outranked | .privilege =>
    { node with overrides := { Overrides.powerOn with records := Overrides.powerOn.records.set q (some ⟨1, 5, 0, none, none⟩) } }

theorem refuses (q : Quantity) (reason : RefusalReason) (hr : reason ≠ .privilege) : RefusedFor (refusing q reason) q reason := by
  cases reason
  · exact absurd rfl hr
  · cases q <;> exact ⟨by decide, by decide, ⟨1, 5, 0, none, none⟩, by decide, by decide, by decide⟩
  · exact (by decide : (safety .evacuate).lifeSafetyActive = true)
  · exact ⟨rfl, rfl⟩

theorem witness_PanelKeysPlaceTheirRecords :
    (PanelMayPlace node .lightScene ∧ node.isFollower = false) ∧ PanelMayPlace node .lightLevel ∧
    (let s := paired .joinedFollow;
      s.isRunning = true ∧ s.isFollower = true ∧ s.lifeSafetyActive = false ∧ s.overrides.hold = false ∧ s.room.switchMarker = false) ∧
    PanelMayPlace (moving .travel .lower) .blinds ∧ PanelMayPlace (after node .airBoostKey) .airBoost ∧
    (∀ reason ∈ [RefusalReason.safety, .held, .outranked], ∀ q ∈ [Quantity.lightScene, .lightLevel, .blinds, .airBoost],
      (refusing q reason).isRunning = true ∧ (refusing q reason).room.switchMarker = false ∧ (refusing q reason).isFollower = false) ∧
    (∀ reason ∈ [RefusalReason.safety, .held, .outranked], ∀ q, RefusedFor (refusing q reason) q reason) := by
  refine ⟨⟨mayPlace ?_, ?_⟩, mayPlace ?_, ?_, mayPlace ?_, mayPlace ?_, ?_, fun reason h q => refuses q reason ?_⟩
  rotate_right
  · rintro rfl
    exact absurd h (by decide)
  all_goals decide +kernel

/-- R150, R154 and R157: a scene key over a higher record is refused with its event and its indicator. -/
theorem test_refused_key :
    let t := after (refusing .lightScene .outranked) (.sceneKey 2)
    t.overrides.records.lightScene = some ⟨1, 5, 0, none, none⟩ ∧ t.overrides.sending.map (·.accepted) = some false ∧
      t.link.latches.overrideRefused.map (·.detail) = some (.overrideRefused 0 (.quantity .lightScene) .outranked) := by decide +kernel

theorem witness_RoomOffClearsThePanelRecords :
    ((held .adhoc).isRunning = true ∧ (held .adhoc).room.switchMarker = false ∧ (held .adhoc).lifeSafetyActive = false ∧
      (held .adhoc).overrides.hold = false ∧ (held .adhoc).isFollower = false ∧ (held .adhoc).room.occupancy = .adhoc) ∧
    ((safety .evacuate).isRunning = true ∧ (safety .evacuate).room.switchMarker = false ∧ (safety .evacuate).lifeSafetyActive = true) ∧
    (let s := { node with overrides := { Overrides.powerOn with hold := true } };
      s.isRunning = true ∧ s.room.switchMarker = false ∧ s.lifeSafetyActive = false ∧ s.overrides.hold = true) := by decide

theorem witness_LifeSafetyBeginsAndEnds :
    (Taken node (frm 5 0 [1, 0, 0]) 0 ∧ SafetyOk node ∧ node.overrides.lifeSafety = .off ∧
      decodeLifeSafety (frm 5 0 [1, 0, 0]).payload = some .evacuate ∧
      decodeLifeSafety (frm 5 0 [2, 0xE8, 3]).payload = some (.smokeHold 1000)) ∧
    node.overrides.frameMode = .off ∧
    (Taken (safety (.smokeHold 300)) (frm 5 0 [0, 0, 0]) 0 ∧ AirOk (safety (.smokeHold 300)) ∧
      (safety (.smokeHold 300)).lifeSafetyActive = true ∧ decodeLifeSafety (frm 5 0 [0, 0, 0]).payload = some .off ∧
      (safety (.smokeHold 300)).pins.fire = false) ∧
    (let s := { safety .evacuate with overrides := { Overrides.powerOn with lifeSafety := .evacuate }, pins := { Pins.atRest with fire := true } };
      s.isRunning = true ∧ AirOk s ∧ s.lifeSafetyActive = true ∧ s.overrides.frameMode = .off ∧ s.pins.fire = true) ∧
    (Taken (safety (.smokeHold 300)) (frm 5 0 [1, 0, 0]) 0 ∧ (safety (.smokeHold 300)).overrides.lifeSafety ≠ .evacuate) ∧
    (Taken (safety .evacuate) (frm 5 0 [2, 0xE8, 3]) 0 ∧ (safety .evacuate).overrides.lifeSafety ≠ .smokeHold 1000) ∧
    ((∃ due, { State.reset with phase := .configFault 60020 }.phase = .configFault due) ∧
      ∃ n b, { State.reset with phase := .reading .retry 2 60030 }.phase = .reading .retry n b) := by
  refine ⟨⟨taken ?_, safety_ok_of_off ?_ ?_ ?_ ?_ ?_, ?_⟩, ?_, ⟨taken ?_, air_ok_of_zero ?_ ?_ (.inr ?_), ?_⟩, ⟨?_,
    air_ok_of_zero ?_ ?_ (.inr ?_), ?_⟩, ⟨taken ?_, ?_⟩, ⟨taken ?_, ?_⟩, ⟨_, rfl⟩, _, _, rfl⟩ <;> decide

/-- The node on hold, bank 2 waiting for its target and bank 1 standing at its own. -/
def frozen : State :=
  { node with
    overrides := { Overrides.powerOn with hold := true }
    shade := { Shade.powerOn with held := ⟨some ⟨0, .scene⟩, some ⟨70, .glare⟩, none⟩ }
    drive := ⟨⟨0, 0, 0⟩, ⟨false, false, false⟩, ⟨none, some ⟨70, .glare⟩, none⟩, none⟩ }

theorem witness_HoldFreezesAndReleasesTheOutputs :
    (Taken (moving .travel .lower) (frm 5 1 [10, 1]) 1 ∧ decodeHold (frm 5 1 [10, 1]).payload = some (10, true) ∧
      10 = (moving .travel .lower).cfg.station ∧ (moving .travel .lower).overrides.hold = false ∧
      (moving .travel .lower).drive.move.map (·.origin) = some .glare ∧
      (moving .travel .lower).drive.waiting = ⟨none, none, none⟩) ∧
    (decodeHold (frm 5 1 [11, 1]).payload = some (11, true) ∧ 11 ≠ node.cfg.station ∧ 11 ≠ 127) ∧
    (let s := { node with overrides := { Overrides.powerOn with hold := true } };
      Taken s (frm 5 1 [127, 0]) 1 ∧ decodeHold (frm 5 1 [127, 0]).payload = some (127, false) ∧ s.overrides.hold = true ∧
        s.lifeSafetyActive = false) ∧
    (frozen.overrides.hold = true ∧ frozen.drive.move = none ∧ frozen.pins.btrip = false ∧
      (frozen.drive.waiting.get .bank2 = some ⟨70, .glare⟩ ∧ frozen.standsAt .bank2 ⟨70, .glare⟩ = false) ∧
      (frozen.drive.waiting.get .bank1 = none ∧ frozen.standsAt .bank1 ⟨0, .scene⟩ = true)) ∧
    (safety .evacuate).lifeSafetyActive = true := by
  refine ⟨⟨taken ?_, ?_⟩, ?_, ⟨taken ?_, ?_⟩, ?_, ?_⟩ <;> decide

/-- R113, R126: at HOLD OFF the grant starts bank 2, and the targets issued again leave it and the bank that stands. -/
theorem test_hold_off_grants_and_issues_again :
    let t := after frozen (.holdOff (frm 5 1 [127, 0]))
    t.drive.move.map (fun m => (m.bank, m.target, m.origin)) = some (.bank2, 70, .glare) ∧
      t.drive.waiting = ⟨none, none, none⟩ ∧ t.out.motorDown = true := by decide +kernel

theorem crowded_ok : QueueOk crowded where
  atMostEight := by decide
  inOrder := by decide +kernel
  latched := by
    intro e he k hk
    simp only [crowded, List.map_cons, List.map_nil, List.mem_cons, List.not_mem_nil, or_false] at he
    obtain rfl | rfl | rfl | rfl | rfl | rfl | rfl | rfl := he <;> cases hk <;> decide
  maskDisabled := by
    intro a ha k hk
    obtain rfl : (⟨.demand, [], none, 540, 0, false, false, false, 0⟩ : Attempt) = a := by simpa [crowded] using ha
    simp at hk
  gathered g h := by simp [crowded, Link.powerOn] at h
  stopped h := absurd h (by decide)

/-- The node with a ROOM_STATUS in flight that carries the flag of the disabled kind OVERRUN. -/
def carrying : State :=
  { node with
    loader := ⟨{ settings with events := settings.events.set .overrun ⟨false, 4⟩ }, false, none⟩
    link :=
      { Link.powerOn with
        queue := [⟨.roomStatus, 0, false, none⟩], attempt := some ⟨.roomStatus, [], none, 540, 0x0008, false, false, false, 0⟩
        latches := { Link.powerOn.latches with overrun := some ⟨.overrun 1, 1, none⟩ } } }

theorem witness_ReportsAreQueuedAndOccurrencesLatched :
    (QueueOk crowded ∧ crowded.isQueued .identity = true ∧ crowded.link.queue.length = 8 ∧ crowded.isQueued .pairCtrl = false ∧
      crowded.inFlight .identity = false ∧ urgency settings .pairCtrl < urgency settings .identity) ∧
    (crowded.isQueued .demand = true ∧ crowded.inFlight .demand = true) ∧
    (∀ e ∈ crowded.link.queue, crowded.inFlight e.kind = true ∨ urgency crowded.cfg e.kind ≤ urgency crowded.cfg .identity) ∧
    node.link.queue.length < 8 ∧ node.isQueued .identity = false ∧
    (node.link.latches.get .adhoc = none ∧ (node.cfg.events.get .adhoc).enabled = true ∧
      crowded.link.latches.get .overrun = some ⟨.overrun 1, 1, none⟩ ∧ crowded.inFlight (.event .overrun) = false ∧
      crowded.statusCarries .overrun = false) ∧
    ((sending (.event .sessionBegin) 0).link.latches.get .sessionBegin = some ⟨.sessionBegin 77, 1, some ⟨.sessionBegin 78, 2⟩⟩ ∧
      (sending (.event .sessionBegin) 0).inFlight (.event .sessionBegin) = true) ∧
    (carrying.link.latches.get .overrun = some ⟨.overrun 1, 1, none⟩ ∧ carrying.inFlight (.event .overrun) = false ∧
      carrying.statusCarries .overrun = true ∧ (carrying.cfg.events.get .overrun).enabled = false) ∧
    (let s := { crowded with link := { crowded.link with queue := crowded.link.queue.take 5 } };
      (s.cfg.events.get .overrun).enabled = true ∧ (s.link.latches.get .overrun).isSome = true ∧
        s.isQueued (.event .overrun) = false ∧ s.link.queue.length < 8) := by
  refine ⟨⟨crowded_ok, ?_⟩, ?_⟩ <;> decide +kernel

/-- R173: a DEMAND queued again while its sending is in flight is marked for requeue; R179: an occurrence of a disabled kind whose
flag is being carried is kept in the later part too. -/
theorem test_requeue_mark_and_carried_latch :
    (crowded.queueReport .demand).entryOf .demand = some ⟨.demand, 0, true, none⟩ ∧
      (carrying.latchEvent (.overrun 2)).link.latches.overrun = some ⟨.overrun 1, 2, some ⟨.overrun 2, 1⟩⟩ ∧
      (after (carrying.latchEvent (.overrun 2)) .transmitCompletion).link.latches.overrun = some ⟨.overrun 2, 1, none⟩ := by
  decide +kernel

theorem witness_AttemptsSendTheHeadOfTheQueue :
    (busy.isRunning = true ∧ busy.link.queue = ⟨.demand, 0, false, none⟩ :: busy.link.queue.tail ∧ busy.link.attempt = none ∧
      busy.link.backoff = none ∧ busy.link.longPause = none) ∧ node.link.queue = [] ∧ crowded.link.attempt.isSome = true ∧
    (node.air.airClass ≤ 3 ∧ node.light.scene ≤ 7 ∧ (∀ b ∈ [Bank.bank1, .bank2, .bank3], node.currentPosition b ≤ 100) ∧
      ∀ q ∈ [Quantity.lightScene, .lightLevel, .blinds, .airBoost, .holdVacant],
        ((node.overrides.records.get q).map (·.level)).getD 0 ≤ 3) ∧
    (crowded.link.latches.get .release = some ⟨.release 1 .noShow, 1, none⟩ ∧ (Detail.release 1 .noShow).kind = .release) := by decide

/-- The attempt that `sending` holds. -/
def attemptIn (k : ReportKind) (attempts : Nat) : Attempt := ⟨k, [], none, 540, 0, false, false, false, attempts⟩

/-- The attempt of `sending`, its entry removed while it was in flight. -/
def orphaned (k : ReportKind) (attempts : Nat) : State :=
  { sending k attempts with
    link := { (sending k attempts).link with queue := [], attempt := some { attemptIn k attempts with orphan := true } } }

theorem orphaned_ok (k : ReportKind) (n : Nat) : QueueOk (orphaned k n) where
  atMostEight := by simp [orphaned]
  inOrder := by simp [orphaned]
  latched := by simp [orphaned]
  maskDisabled a ha j hj := by
    obtain rfl : { attemptIn k n with orphan := true } = a := by simpa [orphaned] using ha
    simp [attemptIn] at hj
  gathered g hg := by simp [orphaned, sending, Link.powerOn] at hg
  stopped h := absurd h (by simp [orphaned, sending, node, State.reset, State.isRunning])

theorem witness_CompletionsEndTheirReports :
    (crowded.isRunning = true ∧ crowded.link.attempt = some (attemptIn .demand 0) ∧ QueueOk crowded ∧
      (attemptIn .demand 0).orphan = false ∧ crowded.entryOf .demand = some ⟨.demand, 0, false, none⟩) ∧
    (QueueOk (orphaned .pairState 0) ∧ (orphaned .pairState 0).link.attempt.any (·.orphan) = true) ∧
    (sending .roomStatus 0).link.attempt = some (attemptIn .roomStatus 0) ∧
    { sending .pairState 0 with pair := (paired .joinedLead).pair }.isJoined = true ∧
    (sending (.event .sessionBegin) 0).link.latches.get .sessionBegin =
      some ⟨.sessionBegin 77, 1, some ⟨.sessionBegin 78, 2⟩⟩ := by
  refine ⟨⟨?_, ?_, crowded_ok, ?_⟩, ⟨orphaned_ok _ _, ?_⟩, ?_⟩ <;> decide

theorem sending_ok : QueueOk (sending .identity 7) where
  atMostEight := by decide
  inOrder := by decide
  latched := by simp [sending]
  maskDisabled a ha k hk := by
    obtain rfl : (⟨.identity, [], none, 540, 0, false, false, false, 7⟩ : Attempt) = a := by simpa [sending] using ha
    simp at hk
  gathered g h := by simp [sending, Link.powerOn] at h
  stopped h := absurd h (by decide)

theorem witness_CollisionsBackOffOrAbandon :
    (∀ k, k ∈ [ReportKind.demand, .event .sessionBegin, .roomStatus] →
      (sending k 6).isRunning = true ∧ (sending k 6).link.attempt = some (attemptIn k 6) ∧ (attemptIn k 6).orphan = false ∧
        (attemptIn k 6).attempts + 1 < 8) ∧
    (∀ k, k ∈ [ReportKind.demand, .event .sessionBegin, .pairCtrl, .identity] →
      (sending k 7).link.attempt = some (attemptIn k 7) ∧ 8 ≤ (attemptIn k 7).attempts + 1 ∧
        (∀ e ∈ (sending k 7).link.queue, e.kind = k) ∧ (sending k 7).link.queue.length < 8 ∧ ((sending k 7).entryOf k).isSome = true) ∧
    QueueOk (sending .identity 7) ∧
    (orphaned .pairState 3).link.attempt.any (·.orphan) = true ∧
    { node with link := { Link.powerOn with longPause := some 10002000 } }.link.longPause = some 10002000 := by
  refine ⟨?_, ?_, sending_ok, ?_⟩ <;> decide

/-- Log entry 14: the collision of an orphaned attempt draws its backoff and abandons nothing. -/
theorem test_orphan_collision :
    let t := after (orphaned .pairState 7) .collision
    t.link.backoff.isSome = true ∧ t.link.longPause = none ∧ t.link.latches.txAbandoned = none := by decide +kernel

end Sys2Proof.Tests
end

section
/-! SUPPORT. How each operation keeps the consistency of the pair state. -/

namespace Sys2Proof.Machine.EvidenceProofs

/-! ### What the pair state's consistency depends on -/

/-- The parts that `PairOk` does not read. -/
abbrev besidePair : List Part :=
  [.now, .phase, .pins, .dims, .damper, .motor, .receiver, .attempt, .pauses, .queue, .latches, .linkTimers, .peers, .clock,
    .records, .transfer, .door, .history, .samples, .occupancy, .switchMarker, .airRecord, .capacity, .grant, .published,
    .light, .glare, .held, .drive, .partition, .offers, .mirror, .handed, .overrideRecords, .modes, .hold, .indicator, .draws,
    .line, .pending]

/-- `PairOk` reads the pair state, the reading, whether the two joined timers run, the counts and the two addresses. -/
theorem pairOk_congr {s t : State} (h : PairOk s) (hcfg : t.cfg = s.cfg) (hstate : t.pair.state = s.pair.state)
    (hreads : t.pair.readsOpen = s.pair.readsOpen) (hlive : t.pair.livenessDue.isSome = s.pair.livenessDue.isSome)
    (hperiod : t.pair.periodDue.isSome = s.pair.periodDue.isSome) (hcount : t.evidence.headcount = s.evidence.headcount)
    (hfollower : t.pair.followerCount = s.pair.followerCount) (hcombined : t.pair.combined = s.pair.combined) : PairOk t := by
  obtain ⟨reads, leads, follows, timed, paced, headcount, follower, combined, formed, apart⟩ := h
  simp only [State.isDivisible, State.isJoined, State.isLead, State.isFollower] at reads timed paced apart
  constructor <;>
    simp only [State.isDivisible, State.isJoined, State.isLead, State.isFollower, hcfg, hstate, hreads, hlive, hperiod, hcount,
      hfollower, hcombined] <;> assumption

/-- What leaves the parts that `PairOk` reads keeps it. -/
theorem pairOk_beside {s t : State} (h : PairOk s) (hc : Changes besidePair s t) : PairOk t :=
  pairOk_congr h hc.cfg hc.pair_state hc.pair_readsOpen (by rw [hc.pair_livenessDue]) (by rw [hc.pair_periodDue])
    hc.evidence_headcount hc.pair_followerCount hc.pair_combined

/-- A node that is not joined, with no timer of a joined state and no counts of one. -/
theorem pairOk_apart {s : State} (hjoined : s.isJoined = false) (hlive : s.pair.livenessDue = none)
    (hperiod : s.pair.periodDue = none) (hfollower : s.pair.followerCount = 0) (hcombined : s.pair.combined = 0)
    (hcount : s.evidence.headcount ≤ 511)
    (hreads : s.pair.state ≠ .single → s.pair.readsOpen = true ∧ s.isDivisible = true) : PairOk s where
  reads := hreads
  leads hl := by simp [State.isJoined, State.isLead, hl] at hjoined
  follows hf := by simp [State.isJoined, State.isFollower, hf] at hjoined
  timed := by rw [hjoined, hlive]; rfl
  paced := by rw [hjoined, hperiod]; rfl
  headcount := hcount
  follower := by omega
  combined := by omega
  formed hl := by simp [State.isJoined, State.isLead, hl] at hjoined
  apart _ := ⟨hcombined, hfollower⟩

/-- Power-on values are consistent under every configuration record. -/
theorem pairOk_powerOn {s : State} (hpair : s.pair = Pair.powerOn) (hcount : s.evidence.headcount = 0) : PairOk s :=
  pairOk_apart (by simp [State.isJoined, State.isLead, State.isFollower, hpair, Pair.powerOn]) (by rw [hpair]; rfl)
    (by rw [hpair]; rfl) (by rw [hpair]; rfl) (by rw [hpair]; rfl) (by omega) (by simp [hpair, Pair.powerOn])

/-! ### Vacancy and the handlings -/

theorem isLead_iff {s : State} : s.isLead = true ↔ s.pair.state = .joinedLead := decide_eq_true_iff

theorem isFollower_iff {s : State} : s.isFollower = true ↔ s.pair.state = .joinedFollow := decide_eq_true_iff

theorem isJoined_of_lead {s : State} (h : s.pair.state = .joinedLead) : s.isJoined = true := by
  simp [State.isJoined, isLead_iff.mpr h]

theorem isJoined_of_follow {s : State} (h : s.pair.state = .joinedFollow) : s.isJoined = true := by
  simp [State.isJoined, isFollower_iff.mpr h]

theorem isJoined_of_single {s : State} (h : s.pair.state = .single) : s.isJoined = false := by
  simp [State.isJoined, State.isLead, State.isFollower, h]

/-- Another headcount, with the combined one formed from it at a lead. -/
theorem pairOk_counted {s : State} (h : PairOk s) {n : Nat} (hn : n ≤ 511) :
    PairOk (if (s.modEvidence fun e => { e with headcount := n }).isLead then
      (s.modEvidence fun e => { e with headcount := n }).formCombined else s.modEvidence fun e => { e with headcount := n }) := by
  obtain ⟨reads, leads, follows, timed, paced, headcount, follower, combined, formed, apart⟩ := h
  split
  next hl =>
    refine ⟨reads, leads, follows, timed, paced, hn, follower, Nat.min_le_left _ _, fun _ => rfl, fun hj => ?_⟩
    exact absurd (Bool.or_eq_false_iff.mp hj).1 (by rw [Bool.not_eq_false]; exact hl)
  next hl =>
    exact ⟨reads, leads, follows, timed, paced, hn, follower, combined, fun hf => absurd (isLead_iff.mpr hf) hl, apart⟩

theorem pairOk_setHeadcount {s : State} (h : PairOk s) {n : Nat} (hn : n ≤ 511) : PairOk (s.setHeadcount n) := by
  unfold State.setHeadcount State.headcountChanged
  split
  · exact h
  · exact pairOk_beside (pairOk_counted h hn) (Changes.ite
      (State.queueReport_changes (State.evaluate_changes (.refl _ _) rfl) _ rfl) (State.evaluate_changes (.refl _ _) rfl))

theorem pairOk_evaluate {s : State} (h : PairOk s) : PairOk s.evaluate :=
  pairOk_beside h (State.evaluate_changes (.refl _ _) rfl)

theorem pairOk_handOff {s : State} (h : PairOk s) (before : Occupancy × Option Nat) : PairOk (s.handOff before) :=
  pairOk_beside h (State.handOff_changes (.refl _ _) _ rfl)

theorem pairOk_declareVacancy {s : State} (h : PairOk s) : PairOk s.declareVacancy := by
  refine pairOk_handOff (pairOk_beside (pairOk_setHeadcount h (Nat.zero_le _)) ?_) _
  exact State.roomVacancy_changes (State.clearHistory_changes (.refl _ _) rfl) rfl

theorem pairOk_deferredTest {s : State} (h : PairOk s) : PairOk s.deferredTest := by
  unfold State.deferredTest
  repeat' split
  · exact h
  · exact pairOk_declareVacancy h
  · exact pairOk_declareVacancy h
  · exact h

/-- A handling keeps what its core keeps: the vacancy that may end it does. -/
theorem pairOk_handling {s : State} {core : State → State} (h : PairOk (core s)) : PairOk (s.handling core) := by
  unfold State.handling
  dsimp only
  split
  · exact pairOk_deferredTest (pairOk_handOff h _)
  · exact pairOk_handOff h _

/-- A handling whose core leaves the pair alone. -/
theorem pairOk_handling_beside {s : State} {core : State → State} (h : PairOk s) (hc : Changes besidePair s (core s)) :
    PairOk (s.handling core) :=
  pairOk_handling (pairOk_beside h hc)

/-! ### Compare points and the clock -/

theorem pairOk_deliver {s : State} (h : PairOk s) (p : Point) (id : Nat) : PairOk (s.deliver p id) :=
  pairOk_handling_beside (pairOk_beside h (State.modRecordOf_changes (.refl _ _) _ _ rfl))
    (State.deliverCore_changes (.refl _ _) _ _ rfl)

theorem pairOk_lateDeliver {s : State} {after : State → State} (ha : ∀ s, PairOk s → PairOk (after s)) (h : PairOk s)
    (p : Point) (id : Nat) : PairOk (s.lateDeliver p id after) := by
  unfold State.lateDeliver
  split
  · exact ha _ (pairOk_deliver h p id)
  · exact h

theorem pairOk_lateDeliverAB {s : State} {after : State → State} (ha : ∀ s, PairOk s → PairOk (after s)) (h : PairOk s)
    (id : Nat) : PairOk (s.lateDeliverAB id after) := by
  unfold State.lateDeliverAB
  split
  · exact ha _ (pairOk_deliver (pairOk_beside h (State.modRecordOf_changes (.refl _ _) _ _ rfl)) _ _)
  · exact pairOk_lateDeliver ha (pairOk_lateDeliver ha h _ _) _ _

theorem pairOk_armLevels : ∀ (n : Nat) (s : State), PairOk s → PairOk (armLevels n s)
  | 0, _, h => h
  | n + 1, s, h => by
    unfold armLevels
    repeat' split
    · exact h
    · exact h
    · exact pairOk_lateDeliver (pairOk_armLevels n) (pairOk_lateDeliverAB (pairOk_armLevels n) h _) _ _

theorem pairOk_armNext {s : State} (h : PairOk s) : PairOk s.armNext := pairOk_armLevels 17 s h

theorem pairOk_takeTurns : ∀ (n : Nat) (s : State), PairOk s → PairOk (takeTurns n s)
  | 0, _, h => h
  | n + 1, s, h => by
    unfold takeTurns
    split
    · exact h
    · exact pairOk_takeTurns n _ (pairOk_armNext (pairOk_deliver h _ _))

theorem pairOk_reachMinute {s : State} (h : PairOk s) (m : Nat) : PairOk (s.reachMinute m) := by
  have hm : PairOk (s.setMinute m) := pairOk_beside h (State.setMinute_changes (.refl _ _) _ rfl)
  refine pairOk_beside (s := (s.setMinute m).takePoints) ?_ (State.expireRecords_changes (.refl _ _) rfl)
  unfold State.takePoints
  split
  · exact pairOk_takeTurns 64 _ hm
  · exact hm

theorem pairOk_reachMinutes : ∀ (n : Nat) (s : State), PairOk s → PairOk (State.reachMinutes n s)
  | 0, _, h => h
  | n + 1, _, h => pairOk_reachMinutes n _ (pairOk_reachMinute h _)

theorem pairOk_minutePasses {s : State} (h : PairOk s) : PairOk s.minutePasses := by
  have hb : PairOk s.atBoundary := pairOk_beside h (State.atBoundary_changes (.refl _ _) rfl)
  unfold State.minutePasses State.advanceMinute
  repeat' split
  · exact pairOk_reachMinute hb _
  · exact pairOk_beside hb (State.setMinute_changes (.refl _ _) _ rfl)
  · exact pairOk_beside hb (State.passMinute_changes (.refl _ _) rfl)
  · exact h

theorem pairOk_firstValidTime {s : State} (h : PairOk s) (m : Nat) : PairOk (s.firstValidTime m) := by
  unfold State.firstValidTime
  refine pairOk_beside (s := if (((s.setMinute m).modClock fun c => { c with timeValid := true }).dropEnded.markAllAfresh).isFollower
    then _ else _) ?_ (State.expireRecords_changes (.refl _ _) rfl)
  have hd : PairOk ((s.setMinute m).modClock fun c => { c with timeValid := true }).dropEnded.markAllAfresh := by
    refine pairOk_beside h ?_
    exact State.markAllAfresh_changes (State.dropEnded_changes (State.modClock_changes (State.setMinute_changes (.refl _ _) _ rfl)
      _ rfl) rfl) rfl
  split
  · exact hd
  · exact pairOk_handling_beside hd (State.derive_changes (.refl _ _) rfl)

theorem pairOk_takeTime {s : State} (h : PairOk s) (f : TimeFields) : PairOk (s.takeTime f) := by
  unfold State.takeTime State.setTime
  have hb : ∀ due : Nat, PairOk (s.modClock fun c => { c with boundaryDue := due }) := fun _ =>
    pairOk_beside h (State.modClock_changes (.refl _ _) _ rfl)
  dsimp only
  repeat' split
  · exact h
  · exact pairOk_firstValidTime (hb _) _
  · exact pairOk_reachMinutes _ _ (hb _)
  · exact pairOk_beside (hb _) (State.setMinute_changes (.refl _ _) _ rfl)

/-! ### The merge and the transfer -/

theorem pairOk_updateRunning {s : State} (h : PairOk s) (r e : Session) : PairOk (s.updateRunning r e) := by
  unfold State.updateRunning
  have hu : PairOk (s.applyUpdate r e).countMerged :=
    pairOk_beside h (State.countMerged_changes (State.applyUpdate_changes (.refl _ _) _ _ rfl) rfl)
  dsimp only
  repeat' split
  · exact pairOk_beside h (State.refuseEntry_changes (.refl _ _) _ _ rfl)
  · exact pairOk_armNext (pairOk_deliver (pairOk_beside hu (State.expireRecords_changes (.refl _ _) rfl)) _ _)
  · exact hu

theorem pairOk_reevaluateMark {s : State} (h : PairOk s) : PairOk s.reevaluateMark :=
  pairOk_beside (pairOk_handling_beside h (State.remarkCore_changes (.refl _ _) rfl))
    (State.relightAndShade_changes (State.evaluate_changes (.refl _ _) rfl) rfl)

theorem pairOk_mergeNew {s : State} (h : PairOk s) (e : Session) : PairOk (s.mergeNew e) := by
  have hn : PairOk ((s.removeSession e.id).placeNew e) :=
    pairOk_beside h (State.placeNew_changes (State.removeSession_changes (.refl _ _) _ rfl) _ rfl)
  refine pairOk_armNext ?_
  split
  · exact pairOk_reevaluateMark hn
  · exact hn

theorem pairOk_mergeEntry {s : State} (h : PairOk s) (f : TtEntryFields) : PairOk (s.mergeEntry f) := by
  unfold State.mergeEntry
  repeat' split
  · exact h
  · exact pairOk_beside h (State.refuseEntry_changes (.refl _ _) _ _ rfl)
  · exact pairOk_updateRunning h _ _
  · exact pairOk_mergeNew h _
  · exact pairOk_mergeNew h _

theorem pairOk_transferEntry {s : State} (h : PairOk s) (source : Nat) (f : TtEntryFields) : PairOk (s.transferEntry source f) := by
  unfold State.transferEntry
  repeat' split
  · exact h
  · exact h
  · exact h
  · exact pairOk_beside h (State.closeTransfer_changes (.refl _ _) _ rfl)
  · exact pairOk_beside (pairOk_mergeEntry (pairOk_beside h (State.countEntry_changes (.refl _ _) rfl)) f)
      (State.finishTransfer_changes (.refl _ _) rfl)

theorem pairOk_beginTransfer {s : State} (h : PairOk s) (source : Nat) (f : TtBeginFields) : PairOk (s.beginTransfer source f) := by
  unfold State.beginTransfer
  dsimp only
  refine (?_ : ∀ u, Changes besidePair s u → PairOk (if f.replace then u.replaceFuture.armNext else u)) _
    (State.modSessions_changes (State.closeTransfer_changes (.refl _ _) _ rfl) _ (.inl rfl) (.inl rfl))
  intro u hu
  split
  · exact pairOk_armNext (pairOk_beside h (State.replaceFuture_changes hu rfl))
  · exact pairOk_beside h hu

theorem pairOk_cancelSession {s : State} (h : PairOk s) (id : Nat) : PairOk (s.cancelSession id) := by
  unfold State.cancelSession
  repeat' split
  · exact h
  · exact pairOk_armNext (pairOk_handling_beside h (State.retire_changes (.refl _ _) _ rfl))
  · exact pairOk_armNext (pairOk_beside h (State.removeSession_changes (.refl _ _) _ rfl))

/-! ### Evidence -/

theorem pairOk_reportEvidence {s : State} (h : PairOk s) : PairOk s.reportEvidence :=
  pairOk_beside (s := (s.modPair fun p => { p with evidenceFlag := true })) (pairOk_congr h rfl rfl rfl rfl rfl rfl rfl rfl)
    (by
      refine State.queueReport_changes (State.modLink_changes (.refl _ _) _ ?_ ?_ ?_ ?_ ?_ ?_) _ rfl <;>
        exact .inl rfl)

theorem pairOk_evidenceEvent {s : State} (h : PairOk s) (k : EvidenceKind) : PairOk (s.evidenceEvent k) := by
  have hh : PairOk ((s.recordEvidence k).handling fun x => x.roomEvidence (s.confirms k)) :=
    pairOk_handling_beside (pairOk_beside h (State.recordEvidence_changes (.refl _ _) _ rfl))
      (State.roomEvidence_changes (.refl _ _) _ rfl)
  unfold State.evidenceEvent
  dsimp only
  split
  · exact pairOk_reportEvidence hh
  · exact hh

theorem pairOk_pairedBreak {s : State} (h : PairOk s) (b : Beam) : PairOk (s.pairedBreak b) := by
  have hw : PairOk (s.setWindow none) := pairOk_beside h (State.setWindow_changes (.refl _ _) _ rfl)
  have hcount := h.headcount
  cases b with
  | inner => exact pairOk_evidenceEvent (pairOk_setHeadcount hw (by omega)) _
  | outer => exact pairOk_evidenceEvent (pairOk_setHeadcount hw (by omega)) _

theorem pairOk_takeBreak {s : State} (h : PairOk s) (b : Beam) : PairOk (s.takeBreak b) := by
  have hw : ∀ w, PairOk (s.setWindow w) := fun w => pairOk_beside h (State.setWindow_changes (.refl _ _) w rfl)
  unfold State.takeBreak
  repeat' split
  · exact h
  · exact pairOk_evidenceEvent h _
  · exact hw _
  · exact pairOk_evidenceEvent (hw _) _
  · exact pairOk_pairedBreak h b

theorem pairOk_markStuck {s : State} (h : PairOk s) (b : Beam) : PairOk (s.markStuck b) := by
  have hm : PairOk ((s.setStuckDue b none).setStuckMark b true) :=
    pairOk_beside h (State.setStuckMark_changes (State.setStuckDue_changes (.refl _ _) _ _ rfl) _ _ rfl)
  unfold State.markStuck
  dsimp only
  split
  · exact hm
  · have hl : PairOk (((s.setStuckDue b none).setStuckMark b true).latchEvent (.sensorFault .door)) :=
      pairOk_beside hm (State.latchEvent_changes (.refl _ _) _ rfl)
    unfold State.declareDoorFault
    refine pairOk_beside (s := if _ then _ else _) ?_ (State.evaluate_changes (.refl _ _) rfl)
    split
    · exact pairOk_evidenceEvent (pairOk_beside hl (State.setWindow_changes (.refl _ _) _ rfl)) _
    · exact hl

theorem pairOk_modEvidence {s : State} (h : PairOk s) {f : Evidence → Evidence} (hf : (f s.evidence).headcount = s.evidence.headcount) :
    PairOk (s.modEvidence f) := pairOk_congr h rfl rfl rfl rfl rfl hf rfl rfl

theorem pairOk_passHold {s : State} (h : PairOk s) : PairOk s.passHold := by
  unfold State.passHold
  dsimp only
  split
  · exact pairOk_declareVacancy (pairOk_modEvidence h rfl)
  · exact pairOk_modEvidence h rfl

theorem pairOk_passTriple {s : State} (h : PairOk s) : PairOk s.passTriple := by
  unfold State.passTriple
  dsimp only
  split
  · exact pairOk_declareVacancy (pairOk_modEvidence h rfl)
  · exact pairOk_modEvidence h rfl

/-! ### Panel keys -/

theorem pairOk_modPair {s : State} (h : PairOk s) {f : Pair → Pair} (hstate : (f s.pair).state = s.pair.state)
    (hreads : (f s.pair).readsOpen = s.pair.readsOpen) (hlive : (f s.pair).livenessDue.isSome = s.pair.livenessDue.isSome)
    (hperiod : (f s.pair).periodDue.isSome = s.pair.periodDue.isSome) (hfollower : (f s.pair).followerCount = s.pair.followerCount)
    (hcombined : (f s.pair).combined = s.pair.combined) : PairOk (s.modPair f) :=
  pairOk_congr h rfl hstate hreads hlive hperiod rfl hfollower hcombined

/-- A key keeps what its own step keeps. -/
theorem pairOk_pressKey {s : State} (h : PairOk s) {ask : State → State × Bool} (ha : ∀ s, PairOk s → PairOk (ask s).1) :
    PairOk (s.pressKey ask) :=
  pairOk_beside (ha _ (pairOk_beside (pairOk_evidenceEvent h _) (State.removeStale_changes (.refl _ _) rfl)))
    (State.indicate_changes (.refl _ _) _ rfl)

theorem pairOk_askOwn {s : State} (h : PairOk s) (q : Quantity) (v : Int) : PairOk (s.askOwn q v).1 :=
  pairOk_beside h (State.takeRequest_changes (.refl _ _) _ rfl)

theorem pairOk_askForwarded {s : State} (h : PairOk s) (q : Quantity) (f : Forwarded) : PairOk (s.askForwarded q f).1 := by
  unfold State.askForwarded
  split
  · exact pairOk_beside h (State.latchEvent_changes (.refl _ _) _ rfl)
  · exact pairOk_beside (pairOk_modPair h rfl rfl rfl rfl rfl rfl) (State.queueReport_changes (.refl _ _) _ rfl)

theorem pairOk_askLights {s : State} (h : PairOk s) (q : Quantity) (f : Forwarded) (own : Int) :
    PairOk (s.askLights q f own).1 := by
  unfold State.askLights
  split
  · exact pairOk_askForwarded h q f
  · exact pairOk_askOwn h q own

theorem pairOk_askRoomOff {s : State} (h : PairOk s) : PairOk s.askRoomOff.1 := by
  unfold State.askRoomOff State.requestVacancy
  have hr : PairOk s.removeLevel3 := pairOk_beside h (State.removeLevel3_changes (.refl _ _) rfl)
  repeat' split
  · exact pairOk_beside h (State.latchEvent_changes (.refl _ _) _ rfl)
  · exact pairOk_declareVacancy hr
  · exact hr

/-! ### Entering and leaving a role -/

/-- What of `PairOk` stands while the debounced reading has turned CLOSED and the role has not yet been left. -/
structure RoleTimed (s : State) : Prop where
  timed : s.pair.livenessDue.isSome = s.isJoined
  paced : s.pair.periodDue.isSome = s.isJoined
  headcount : s.evidence.headcount ≤ 511
  apart : s.isJoined = false → s.pair.combined = 0 ∧ s.pair.followerCount = 0

theorem pairOk_resetRole {s : State} {r : PairState} (hr : r = .single ∨ r = .partnerLost) (hcount : s.evidence.headcount ≤ 511)
    (hreads : r ≠ .single → s.pair.readsOpen = true ∧ s.isDivisible = true) : PairOk (s.resetRole r) := by
  refine pairOk_apart ?_ rfl rfl rfl rfl hcount hreads
  rcases hr with rfl | rfl <;> rfl

theorem pairOk_exitRole {s : State} {r : PairState} (hr : r = .single ∨ r = .partnerLost) (hcount : s.evidence.headcount ≤ 511)
    (hreads : r ≠ .single → s.pair.readsOpen = true ∧ s.isDivisible = true) : PairOk (s.exitRole r) := by
  have hq : Changes besidePair s (s.removeReport .pairState) := State.removeReport_changes (.refl _ _) _ rfl
  have hreset : PairOk ((s.removeReport .pairState).resetRole r) := by
    refine pairOk_resetRole hr (by rwa [hq.evidence_headcount]) fun h => ?_
    rw [hq.pair_readsOpen, State.isDivisible, hq.cfg]
    exact hreads h
  unfold State.exitRole
  refine pairOk_beside (s := if s.isFollower then _ else _) ?_
    (State.relightAndShade_changes (State.evaluate_changes (.refl _ _) rfl) rfl)
  split
  · exact pairOk_handling (pairOk_beside hreset (State.deriveOwn_changes (.refl _ _) rfl))
  · exact pairOk_beside hreset (State.dropPartnerRecords_changes (.refl _ _) rfl)

theorem pairOk_becomeSingle {s : State} (h : RoleTimed s) : PairOk s.becomeSingle := by
  unfold State.becomeSingle
  split
  · exact pairOk_exitRole (.inl rfl) h.headcount (absurd rfl)
  next hj =>
    have hj : s.isJoined = false := by simpa using hj
    obtain ⟨hcombined, hfollower⟩ := h.apart hj
    refine pairOk_apart rfl ?_ ?_ hfollower hcombined h.headcount (absurd rfl)
    · exact Option.not_isSome_iff_eq_none.mp (by rw [State.modPair_pair, h.timed, hj]; decide)
    · exact Option.not_isSome_iff_eq_none.mp (by rw [State.modPair_pair, h.paced, hj]; decide)

theorem roleTimed_congr {s t : State} (h : RoleTimed s) (hpair : t.pair = s.pair) (hevidence : t.evidence = s.evidence) :
    RoleTimed t := by
  obtain ⟨timed, paced, headcount, apart⟩ := h
  simp only [State.isJoined, State.isLead, State.isFollower] at timed paced apart
  constructor <;> simp only [State.isJoined, State.isLead, State.isFollower, hpair, hevidence] <;> assumption

theorem pairOk_roleTimed {s : State} (h : PairOk s) : RoleTimed s := ⟨h.timed, h.paced, h.headcount, h.apart⟩

/-- A node that is not joined offers, where its reading is open and it has a partner. -/
theorem pairOk_enterOffering {s : State} (h : PairOk s) (hj : s.isJoined = false) (hreads : s.pair.readsOpen = true)
    (hdiv : s.isDivisible = true) : PairOk s.enterOffering := by
  obtain ⟨hcombined, hfollower⟩ := h.apart hj
  refine pairOk_beside (s := s.modPair fun p => { p with state := .offering, offerCount := 1, offerDue := some (s.now + secs 10) })
    (pairOk_apart rfl ?_ ?_ hfollower hcombined h.headcount fun _ => ⟨hreads, hdiv⟩) (State.queuePairCtrl_changes (.refl _ _) _ rfl)
  · exact Option.not_isSome_iff_eq_none.mp (by rw [State.modPair_pair, h.timed, hj]; decide)
  · exact Option.not_isSome_iff_eq_none.mp (by rw [State.modPair_pair, h.paced, hj]; decide)

/-- The lead's role, its follower count given. -/
theorem pairOk_leadRole {s : State} (h : PairOk s) (hreads : s.pair.readsOpen = true) (hdiv : s.isDivisible = true)
    (hrole : s.role = .joinedLead) {n : Nat} (hn : n ≤ 511) : PairOk ((s.takeRole .joinedLead).leadItems n) where
  reads _ := ⟨hreads, hdiv⟩
  leads _ := by
    unfold State.role at hrole
    split at hrole
    · assumption
    · cases hrole
  follows hf := by cases hf
  timed := rfl
  paced := rfl
  headcount := h.headcount
  follower := hn
  combined := Nat.min_le_left _ _
  formed _ := rfl
  apart hj := by cases hj

/-- The follower's role. -/
theorem pairOk_followRole {s : State} (h : PairOk s) (hreads : s.pair.readsOpen = true) (hdiv : s.isDivisible = true)
    (hrole : s.role ≠ .joinedLead) (m : Mirror) : PairOk ((s.takeRole .joinedFollow).followItems m) where
  reads _ := ⟨hreads, hdiv⟩
  leads hl := by cases hl
  follows _ := by
    have hle : ¬ s.cfg.station < s.cfg.partner := fun hlt => hrole (by simp [State.role, hlt])
    have hne : s.cfg.partner ≠ s.cfg.station := by
      simp only [State.isDivisible, Bool.and_eq_true, decide_eq_true_eq] at hdiv
      exact hdiv.2
    show s.cfg.partner < s.cfg.station
    omega
  timed := rfl
  paced := rfl
  headcount := h.headcount
  follower := h.follower
  combined := Nat.zero_le _
  formed hl := by cases hl
  apart hj := by cases hj

theorem pairOk_enterRole {s : State} (h : PairOk s) (hreads : s.pair.readsOpen = true) (hdiv : s.isDivisible = true) {n : Nat}
    (hn : n ≤ 511) : PairOk (s.enterRole n) := by
  unfold State.enterRole
  refine pairOk_beside (s := if s.role = .joinedLead then _ else _) ?_
    (State.queueReport_changes (State.relightAndShade_changes (State.evaluate_changes (.refl _ _) rfl) rfl) _ rfl)
  split
  next hrole => exact pairOk_leadRole h hreads hdiv hrole hn
  next hrole => exact pairOk_handling (pairOk_followRole h hreads hdiv hrole _)

/-! ### The partition and the partner's messages -/

theorem pairOk_partitionOpened {s : State} (h : PairOk s) (hopen : s.pair.readsOpen = true) : PairOk s.partitionOpened := by
  unfold State.partitionOpened
  split
  next hs => exact pairOk_enterOffering h (isJoined_of_single hs.2) hopen hs.1
  next => exact h

/-- The reading has turned CLOSED: only SINGLE stands with it, and any other state is left. -/
theorem pairOk_partitionClosed {s : State} (h : RoleTimed s) (hsingle : s.pair.state = .single → PairOk s) :
    PairOk s.partitionClosed := by
  unfold State.partitionClosed
  have hq : Changes [.queue] s (s.queuePairCtrl .joinLeave) := State.queuePairCtrl_changes (.refl _ _) _ rfl
  split
  next hs => exact hsingle hs
  next => exact pairOk_becomeSingle (roleTimed_congr h hq.pair hq.evidence)

theorem pairOk_settlePartition {s : State} (h : PairOk s) : PairOk s.settlePartition := by
  unfold State.settlePartition
  dsimp only
  split
  next heq => exact pairOk_modPair h rfl heq rfl rfl rfl rfl
  next =>
    obtain ⟨reads, leads, follows, timed, paced, headcount, follower, combined, formed, apart⟩ := h
    split
    next hopen =>
      exact pairOk_partitionOpened ⟨fun hs => ⟨hopen, (reads hs).2⟩, leads, follows, timed, paced, headcount, follower,
        combined, formed, apart⟩ hopen
    next =>
      exact pairOk_partitionClosed ⟨timed, paced, headcount, apart⟩ fun hs => ⟨fun hn => absurd hs hn, leads, follows, timed,
        paced, headcount, follower, combined, formed, apart⟩

theorem pairOk_restartLiveness {s : State} (h : PairOk s) (hj : s.isJoined = true) : PairOk s.restartLiveness :=
  pairOk_modPair h rfl rfl (by rw [h.timed, hj]; rfl) rfl rfl rfl

/-- A lead's follower count with the combined count formed from it. -/
theorem pairOk_setFollowerCount {s : State} (h : PairOk s) (hl : s.pair.state = .joinedLead) {n : Nat} (hn : n ≤ 511) :
    PairOk (s.setFollowerCount n) where
  reads := h.reads
  leads := h.leads
  follows := h.follows
  timed := h.timed
  paced := h.paced
  headcount := h.headcount
  follower := hn
  combined := Nat.min_le_left _ _
  formed _ := rfl
  apart hj := by simp [State.isJoined, State.isLead, State.setFollowerCount, State.formCombined, hl] at hj

theorem divisible_of_fromPartner {s : State} {source : Nat} (h : s.fromPartner source = true) : s.isDivisible = true := by
  simp only [State.fromPartner, Bool.and_eq_true] at h
  exact h.1

theorem pairOk_takeOffer {s : State} (h : PairOk s) (hdiv : s.isDivisible = true) {n : Nat} (hn : n ≤ 511) :
    PairOk (s.takeOffer n) := by
  have hq : ∀ m, Changes besidePair s (s.queuePairCtrl m) := fun m => State.queuePairCtrl_changes (.refl _ _) m rfl
  have hok : ∀ m, PairOk (s.queuePairCtrl m) := fun m => pairOk_beside h (hq m)
  have henter : s.pair.readsOpen = true → PairOk ((s.queuePairCtrl .joinAccept).enterRole n) := fun hreads =>
    pairOk_enterRole (hok _) (by rwa [(hq _).pair_readsOpen]) (by rw [State.isDivisible, (hq _).cfg]; exact hdiv) hn
  have hlive : s.isJoined = true → PairOk (s.queuePairCtrl .joinAccept).restartLiveness := fun hj =>
    pairOk_restartLiveness (hok _) (by rw [State.isJoined, State.isLead, State.isFollower, (hq _).pair_state]; exact hj)
  unfold State.takeOffer
  split
  case h_1 hs =>
    refine pairOk_beside (pairOk_setFollowerCount (hlive (isJoined_of_lead hs)) ?_ hn)
      (State.evaluate_changes (.refl _ _) rfl)
    exact ((hq _).pair_state).trans hs
  case h_2 hs => exact hlive (isJoined_of_follow hs)
  case h_3 =>
    split
    next hreads => exact henter hreads
    next => exact pairOk_beside (hok _) (State.mismatch_changes (.refl _ _) rfl)
  all_goals
    split
    next hreads => exact henter hreads
    next => exact h

theorem pairOk_takeAccept {s : State} (h : PairOk s) : PairOk s.takeAccept := by
  have henter : s.pair.state ≠ .single → PairOk (s.enterRole 0) := fun hs =>
    pairOk_enterRole h (h.reads hs).1 (h.reads hs).2 (Nat.zero_le _)
  unfold State.takeAccept
  split
  case h_1 hs => exact henter (by rw [hs]; decide)
  case h_2 hs => exact henter (by rw [hs]; decide)
  case h_3 hs => exact pairOk_restartLiveness h (isJoined_of_lead hs)
  case h_4 hs => exact pairOk_restartLiveness h (isJoined_of_follow hs)
  case h_5 => exact h

/-- What a handling changes once its core is done. -/
theorem handling_changes_core (s : State) (core : State → State) :
    Changes ([.switchMarker] ++ Part.handling) (core s) (s.handling core) := by
  unfold State.handling
  dsimp only
  split
  · exact State.deferredTest_changes (State.handOff_changes (.refl _ _) _ (by decide)) (by decide)
  · exact State.handOff_changes (.refl _ _) _ (by decide)

theorem pair_state_exitRole (s : State) (r : PairState) : (s.exitRole r).pair.state = r := by
  have hread : ∀ u : State, u.evaluate.relightAndShade.pair.state = u.pair.state := fun u =>
    Changes.pair_state (ps := Part.readers) (State.relightAndShade_changes (State.evaluate_changes (.refl _ _) rfl) rfl)
  unfold State.exitRole
  rw [hread]
  split
  · have hd : Changes [.records, .occupancy] ((s.removeReport .pairState).resetRole r)
        ((s.removeReport .pairState).resetRole r).deriveOwn := State.deriveOwn_changes (.refl _ _) rfl
    rw [(handling_changes_core _ _).pair_state, hd.pair_state]
    rfl
  · exact Changes.pair_state (ps := Part.readers) (State.dropPartnerRecords_changes (.refl _ _) rfl)

theorem pair_state_becomeSingle (s : State) : s.becomeSingle.pair.state = .single := by
  unfold State.becomeSingle
  split
  · exact pair_state_exitRole s .single
  · rfl

theorem pairOk_takeLeave {s : State} (h : PairOk s) (hdiv : s.isDivisible = true) : PairOk s.takeLeave := by
  have hsingle : PairOk s.becomeSingle := pairOk_becomeSingle (pairOk_roleTimed h)
  have hcfg : s.becomeSingle.cfg = s.cfg := by
    have hc : Changes ([.attempt, .records, .pairState, .offers, .pairTimers] ++ Part.handling) s s.becomeSingle :=
      State.becomeSingle_changes (.refl _ _) (by decide)
    exact hc.cfg
  have hleave : PairOk (if s.becomeSingle.pair.readsOpen then s.becomeSingle.enterOffering else s.becomeSingle) := by
    split
    next hreads =>
      exact pairOk_enterOffering hsingle (isJoined_of_single (pair_state_becomeSingle s)) hreads
        (by rw [State.isDivisible, hcfg]; exact hdiv)
    next => exact hsingle
  unfold State.takeLeave
  split
  · exact hleave
  · exact hleave
  · exact hleave
  · exact h
  · exact h

theorem pairOk_followerRequest {s : State} (h : PairOk s) (f : FollowFields) : PairOk (s.followerRequest f) := by
  unfold State.followerRequest
  repeat' split
  · exact h
  · exact h
  · exact pairOk_modPair (pairOk_beside h (State.takeForwarded_changes (.refl _ _) _ rfl)) rfl rfl rfl rfl rfl rfl

theorem pairOk_takeFollowFrame {s : State} (h : PairOk s) (hl : s.pair.state = .joinedLead) {f : FollowFields}
    (hf : f.headcount ≤ 511) : PairOk (s.takeFollowFrame f) := by
  have hcount : PairOk ((s.restartLiveness.setFollowerCount f.headcount).evaluate) :=
    pairOk_beside (pairOk_setFollowerCount (pairOk_restartLiveness h (isJoined_of_lead hl)) hl hf)
      (State.evaluate_changes (.refl _ _) rfl)
  refine pairOk_followerRequest ?_ f
  split
  · exact pairOk_evidenceEvent hcount _
  · exact hcount

theorem pairOk_takeLeadFrame {s : State} (h : PairOk s) (hl : s.pair.state = .joinedFollow) {f : LeadFields}
    (hf : f.combined ≤ 511) : PairOk (s.takeLeadFrame f) := by
  have hj : s.isJoined = true := isJoined_of_follow hl
  have hset : PairOk (s.restartLiveness.modPair fun p => { p with combined := f.combined }) := by
    obtain ⟨reads, leads, follows, timed, paced, headcount, follower, combined, formed, apart⟩ := pairOk_restartLiveness h hj
    refine ⟨reads, leads, follows, timed, paced, headcount, follower, hf, fun hs => ?_, fun hn => ?_⟩
    · exact absurd (hl.symm.trans hs) (by decide)
    · exact absurd (hj.symm.trans hn) (by decide)
  have heval := pairOk_evaluate hset
  have hmirror : ∀ u : State, PairOk u → PairOk (u.handling fun x => x.mirrorLead f) := fun u hu =>
    pairOk_handling_beside hu (State.mirrorLead_changes (.refl _ _) f rfl)
  exact pairOk_beside (hmirror _ heval) (State.relightAndShade_changes (.refl _ _) rfl)

theorem decodeLead_combined {p : List Byte} {f : LeadFields} (h : decodeLead p = some f) : f.combined ≤ 511 := by
  unfold decodeLead at h
  split at h
  · split at h
    · cases h
    · split at h
      · cases h
      · rw [← Option.some.inj h]
        exact Nat.min_le_left _ _
  · cases h

theorem pairOk_takePairState {s : State} (h : PairOk s) (payload : List Byte) : PairOk (s.takePairState payload) := by
  unfold State.takePairState
  repeat' split
  · exact pairOk_takeFollowFrame h ‹_› (Nat.min_le_left _ _)
  · exact pairOk_takeLeadFrame h ‹_› (decodeLead_combined ‹_›)
  · exact h
  · exact pairOk_beside h (State.queuePairCtrl_changes (.refl _ _) _ rfl)
  · exact h

theorem pairOk_losePartner {s : State} (h : PairOk s) (hlive : s.pair.livenessDue.isSome = true) : PairOk s.losePartner := by
  have hs : s.pair.state ≠ .single := by
    intro hs
    have := h.timed
    simp [hlive, State.isJoined, State.isLead, State.isFollower, hs] at this
  have hl : Changes besidePair s (s.latchEvent (.partnerLost s.cfg.partner)) := State.latchEvent_changes (.refl _ _) _ rfl
  have hok := pairOk_beside h hl
  have hoffers : ∀ (u : State) (due : Nat), PairOk u → PairOk (u.modPair fun p => { p with offerDue := some due, offerCount := 0 }) :=
    fun _ _ hu => pairOk_modPair hu rfl rfl rfl rfl rfl rfl
  exact hoffers _ _ (pairOk_exitRole (.inr rfl) hok.headcount fun _ => hok.reads (by rwa [hl.pair_state]))

/-! ### The transmit path and start-up -/

theorem pairOk_settlePairState {s : State} (h : PairOk s) (a : Attempt) : PairOk (s.settlePairState a) := by
  unfold State.settlePairState
  split
  next hj => exact pairOk_modPair h rfl rfl rfl (by rw [h.paced, hj]; rfl) rfl rfl
  next => exact h

theorem pairOk_ownerAction {s : State} (h : PairOk s) (a : Attempt) : PairOk (s.ownerAction a) := by
  unfold State.ownerAction
  split
  · refine pairOk_beside h (State.restartDemand_changes (State.modAir_changes (.refl _ _) _ ?_ ?_ ?_ ?_) rfl) <;> exact .inl rfl
  · exact pairOk_beside h (State.restartStatus_changes
      (Changes.foldl (fun s k => State.settleDisabled_changes (.refl _ s) _ k rfl) _ (.refl _ _)) rfl)
  · exact pairOk_settlePairState h a
  · exact pairOk_beside h (State.setLatch_changes (.refl _ _) _ _ rfl)
  · exact h
  · exact h

theorem pairOk_completeAttempt {s : State} (h : PairOk s) : PairOk s.completeAttempt := by
  have hend : PairOk s.endAttempt := pairOk_beside h (State.endAttempt_changes (.refl _ _) rfl)
  unfold State.completeAttempt
  repeat' split
  · exact h
  · exact hend
  · exact pairOk_beside (pairOk_ownerAction (pairOk_beside hend (State.dropEntry_changes (.refl _ _) _ rfl)) _)
      (State.refill_changes (State.requeueSent_changes (.refl _ _) _ rfl) rfl)
  · exact hend

theorem pairOk_failAttempt {s : State} (h : PairOk s) (cause : ReadCause) (attempt beginsAt : Nat) :
    PairOk (s.failAttempt cause attempt beginsAt) := by
  unfold State.failAttempt
  dsimp only
  split
  · exact pairOk_beside h (State.withPhase_changes (State.advanceTo_changes (.refl _ _) _ rfl) _ rfl)
  · exact pairOk_powerOn rfl rfl

/-- A completed read starts from power-on values, or from a Pair Unit reset for the soft restart. -/
theorem pairOk_finishRead (s : State) (cause : ReadCause) (beginsAt : Nat) (image : List Byte) :
    PairOk (s.finishRead cause beginsAt image) := by
  have hfresh : ∀ u : State, PairOk u.startFresh := fun u =>
    pairOk_beside (s := u.powerOnBlocks.modOut _) (pairOk_powerOn rfl rfl) (State.beginRunning_changes (.refl _ _) rfl)
  unfold State.finishRead
  cases cause with
  | powerOn => exact hfresh _
  | retry => exact hfresh _
  | softRestart =>
    exact pairOk_beside (pairOk_powerOn (s := State.resetForRestart _) rfl rfl)
      (State.beginRunning_changes (State.derive_changes (State.sessionsForRestart_changes (.refl _ _) rfl) rfl) rfl)

/-! ### Every command -/

theorem pairOk_whileRunning {s : State} {act : State → State} (h : PairOk s) (ha : PairOk (act s)) :
    PairOk (s.whileRunning act) := by
  unfold State.whileRunning
  split
  · exact ha
  · exact h

theorem pairOk_onExpiry {s : State} {timer : Option Nat} {act : State → State} (h : PairOk s)
    (ha : ∀ due, timer = some due → PairOk (s.advanceTo due) → PairOk (act (s.advanceTo due))) :
    PairOk (s.onExpiry timer act) := by
  unfold State.onExpiry
  split
  · exact h
  · exact ha _ rfl (pairOk_beside h (State.advanceTo_changes (.refl _ _) _ rfl))

theorem pairOk_timer {s : State} {timer : Option Nat} {act : State → State} (h : PairOk s)
    (ha : ∀ u, PairOk u → PairOk (act u)) : PairOk (s.onExpiry timer act) :=
  pairOk_onExpiry h fun _ _ => ha _

theorem pairOk_receive {s : State} {act : State → State} (h : PairOk s) (kind required : Nat) (f : Frame)
    (ha : ∀ u, PairOk u → PairOk (act u)) : PairOk (s.receive kind required f act) := by
  have hr : PairOk (s.recordPeer f.src.toNat) := pairOk_beside h (State.recordPeer_changes (.refl _ _) _ rfl)
  refine pairOk_whileRunning h ?_
  unfold State.dispatch
  repeat' split
  · exact h
  · exact pairOk_beside hr (State.latchEvent_changes (.refl _ _) _ rfl)
  · exact ha _ hr

/-- A frame whose command leaves the pair alone. -/
theorem pairOk_receive_beside {s : State} {act : State → State} (h : PairOk s) (kind required : Nat) (f : Frame)
    (ha : ∀ u, Changes besidePair u (act u)) : PairOk (s.receive kind required f act) :=
  pairOk_receive h kind required f fun u hu => pairOk_beside hu (ha u)

/-- A command that acts only while the blocks run, and leaves the pair alone. -/
theorem pairOk_running_beside {s : State} {act : State → State} (h : PairOk s) (ha : Changes besidePair s (act s)) :
    PairOk (s.whileRunning act) :=
  pairOk_whileRunning h (pairOk_beside h ha)

/-- The partner's frames reach a divisible node alone. -/
theorem pairOk_partnerFrame {s : State} {act : State → State} (h : PairOk s) (kind required : Nat) (f : Frame)
    (ha : ∀ u, PairOk u → u.isDivisible = true → PairOk (act u)) :
    PairOk (s.receive kind required f fun x => if x.fromPartner f.src.toNat then act x else x) :=
  pairOk_receive h kind required f fun u hu => by
    split
    next hp => exact ha u hu (divisible_of_fromPartner hp)
    next => exact hu

theorem isDivisible_writePartnerMax (s : State) (m : Nat) : (s.writePartnerMax m).isDivisible = s.isDivisible := by
  have hc : Changes [.damper, .queue, .peers, .airRecord, .grant] s (s.writePartnerMax m) :=
    State.writePartnerMax_changes (.refl _ _) m (by decide)
  rw [State.isDivisible, State.isDivisible, hc.cfg]

theorem pairOk_writePartnerMax {s : State} (h : PairOk s) (m : Nat) : PairOk (s.writePartnerMax m) :=
  pairOk_beside h (State.writePartnerMax_changes (.refl _ _) m rfl)

/-- Every command has a next state, which keeps the pair consistent. -/
theorem pairOk_exec (c : Instr) {s : State} (h : PairOk s) : ∃ t, exec c s = .next t ∧ PairOk t := by
  cases c with
  | nrstAsserted => exact ⟨_, rfl, pairOk_powerOn rfl rfl⟩
  | nrstNegated => exact ⟨_, rfl, pairOk_beside h (State.releaseReset_changes (.refl _ _) rfl)⟩
  | configAttemptFailed =>
    refine ⟨_, rfl, ?_⟩
    split
    · exact pairOk_failAttempt h _ _ _
    · exact h
  | configRetryExpiry =>
    refine ⟨_, rfl, ?_⟩
    split
    · exact pairOk_beside h (State.beginRetry_changes (.refl _ _) _ rfl)
    · exact h
  | configReadComplete image =>
    refine ⟨_, rfl, ?_⟩
    split
    · exact pairOk_finishRead s _ _ _
    · exact h
  | minuteBoundary => exact ⟨_, rfl, pairOk_minutePasses h⟩
  | time f =>
    refine ⟨_, rfl, pairOk_receive h _ _ _ fun u hu => ?_⟩
    split
    · exact pairOk_takeTime hu _
    · exact hu
  | ttBegin f =>
    refine ⟨_, rfl, pairOk_receive h _ _ _ fun u hu => ?_⟩
    split
    · exact pairOk_beginTransfer hu _ _
    · exact hu
  | ttEntry f =>
    refine ⟨_, rfl, pairOk_receive h _ _ _ fun u hu => ?_⟩
    split
    · exact pairOk_transferEntry hu _ _
    · exact hu
  | ttCancel f =>
    refine ⟨_, rfl, pairOk_receive h _ _ _ fun u hu => ?_⟩
    split
    · exact pairOk_cancelSession hu _
    · exact hu
  | silenceTimerExpiry =>
    exact ⟨_, rfl, pairOk_running_beside h
      (State.onExpiry_changes (fun _ => State.closeTransfer_changes (.refl _ _) _ rfl) (.refl _ _) _ rfl)⟩
  | overrunTimerExpiry =>
    refine ⟨_, rfl, pairOk_whileRunning h (pairOk_timer h fun u hu => pairOk_handling_beside hu ?_)⟩
    exact State.latchEvent_changes (State.setOccupancy_changes (State.clearOverrun_changes (.refl _ _) rfl) _ rfl) _ rfl
  | pirPulse => exact ⟨_, rfl, pairOk_whileRunning h (pairOk_evidenceEvent h _)⟩
  | beamBreak b =>
    refine ⟨_, rfl, ?_⟩
    have hb : PairOk (s.setBeam b true) := pairOk_beside h (State.setBeam_changes (.refl _ _) _ _ rfl)
    split
    · exact h
    · exact pairOk_whileRunning hb (pairOk_takeBreak (pairOk_beside hb (State.setStuckDue_changes (.refl _ _) _ _ rfl)) b)
  | beamRelease b =>
    refine ⟨_, rfl, ?_⟩
    have hb : PairOk (s.setBeam b false) := pairOk_beside h (State.setBeam_changes (.refl _ _) _ _ rfl)
    split
    · exact pairOk_running_beside hb (State.releaseBeam_changes (.refl _ _) _ rfl)
    · exact h
  | windowExpiry =>
    exact ⟨_, rfl, pairOk_whileRunning h (pairOk_timer h fun u hu =>
      pairOk_evidenceEvent (pairOk_beside hu (State.setWindow_changes (.refl _ _) _ rfl)) _)⟩
  | stuckTimerExpiry b => exact ⟨_, rfl, pairOk_whileRunning h (pairOk_timer h fun u hu => pairOk_markStuck hu b)⟩
  | vacancyHoldExpiry => exact ⟨_, rfl, pairOk_whileRunning h (pairOk_timer h fun u hu => pairOk_passHold hu)⟩
  | tripleHoldExpiry => exact ⟨_, rfl, pairOk_whileRunning h (pairOk_timer h fun u hu => pairOk_passTriple hu)⟩
  | co2Sample counts =>
    exact ⟨_, rfl, pairOk_running_beside h (State.takeCo2_changes (State.advanceTo_changes (.refl _ _) _ rfl) _ rfl)⟩
  | photocellSample counts =>
    exact ⟨_, rfl, pairOk_running_beside h (State.takePhoto_changes (State.advanceTo_changes (.refl _ _) _ rfl) _ rfl)⟩
  | irradianceSample counts =>
    exact ⟨_, rfl, pairOk_running_beside h (State.takeIrradiance_changes (State.advanceTo_changes (.refl _ _) _ rfl) _ rfl)⟩
  | clearDwellExpiry =>
    exact ⟨_, rfl, pairOk_running_beside h
      (State.onExpiry_changes (fun _ => State.clearGlare_changes (.refl _ _) rfl) (.refl _ _) _ rfl)⟩
  | capacity f =>
    refine ⟨_, rfl, pairOk_receive_beside h _ _ _ fun u => ?_⟩
    split
    · exact State.takeCapacity_changes (.refl _ _) _ rfl
    · exact .refl _ _
  | demand f =>
    refine ⟨_, rfl, pairOk_receive_beside h _ _ _ fun u => ?_⟩
    split
    · exact State.takeDemand_changes (.refl _ _) _ _ rfl
    · exact .refl _ _
  | capacityTimerExpiry =>
    exact ⟨_, rfl, pairOk_running_beside h
      (State.onExpiry_changes (fun _ => State.loseCapacity_changes (.refl _ _) rfl) (.refl _ _) _ rfl)⟩
  | viewAgeCheck => exact ⟨_, rfl, pairOk_running_beside h (State.checkView_changes (.refl _ _) rfl)⟩
  | pinchTimerExpiry =>
    exact ⟨_, rfl, pairOk_running_beside h
      (State.onExpiry_changes (fun _ => State.pinchExpired_changes (.refl _ _) rfl) (.refl _ _) _ rfl)⟩
  | demandPeriodExpiry =>
    exact ⟨_, rfl, pairOk_running_beside h (State.demandPeriod_changes (State.advanceTo_changes (.refl _ _) _ rfl) rfl)⟩
  | moveCompletion => exact ⟨_, rfl, pairOk_running_beside h (State.travelDone_changes (.refl _ _) rfl)⟩
  | homingEnd => exact ⟨_, rfl, pairOk_running_beside h (State.homingDone_changes (.refl _ _) rfl)⟩
  | trip held =>
    exact ⟨_, rfl, pairOk_running_beside (pairOk_beside h (State.modPins_changes (.refl _ _) _ rfl))
      (State.tripNow_changes (.refl _ _) rfl)⟩
  | partChange isOpen =>
    refine ⟨_, rfl, ?_⟩
    have hp : PairOk (s.modPins fun p => { p with partOpen := isOpen }) := pairOk_beside h (State.modPins_changes (.refl _ _) _ rfl)
    split
    · exact h
    · exact pairOk_whileRunning hp (pairOk_modPair hp rfl rfl rfl rfl rfl rfl)
  | debounceExpiry => exact ⟨_, rfl, pairOk_whileRunning h (pairOk_timer h fun u hu => pairOk_settlePartition hu)⟩
  | offerRetryExpiry =>
    exact ⟨_, rfl, pairOk_running_beside h
      (State.onExpiry_changes (fun _ => State.offerAgain_changes (.refl _ _) rfl) (.refl _ _) _ rfl)⟩
  | joinOffer f =>
    refine ⟨_, rfl, pairOk_receive h _ _ _ fun u hu => ?_⟩
    split
    next hp _ =>
      exact pairOk_takeOffer (pairOk_writePartnerMax hu _) (by rw [isDivisible_writePartnerMax]; exact divisible_of_fromPartner hp)
        (Nat.min_le_left _ _)
    next => exact hu
  | joinAccept f =>
    refine ⟨_, rfl, pairOk_receive h _ _ _ fun u hu => ?_⟩
    split
    · exact pairOk_takeAccept (pairOk_writePartnerMax hu _)
    · exact hu
  | joinRefuse f =>
    exact ⟨_, rfl, pairOk_partnerFrame h _ _ f fun u hu _ => pairOk_beside hu (State.takeRefuse_changes (.refl _ _) rfl)⟩
  | joinLeave f => exact ⟨_, rfl, pairOk_partnerFrame h _ _ f fun u hu hd => pairOk_takeLeave hu hd⟩
  | pairState f => exact ⟨_, rfl, pairOk_partnerFrame h _ _ f fun u hu _ => pairOk_takePairState hu _⟩
  | pairStatusPeriodExpiry =>
    refine ⟨_, rfl, pairOk_whileRunning h (pairOk_onExpiry h fun due hdue hu => ?_)⟩
    exact pairOk_beside (pairOk_modPair hu rfl rfl rfl (by rw [State.advanceTo_pair, hdue]; rfl) rfl rfl)
      (State.queueReport_changes (.refl _ _) _ rfl)
  | livenessExpiry =>
    refine ⟨_, rfl, pairOk_whileRunning h (pairOk_onExpiry h fun due hdue hu => pairOk_losePartner hu ?_)⟩
    rw [State.advanceTo_pair, hdue]; rfl
  | override f =>
    refine ⟨_, rfl, pairOk_receive_beside h _ _ _ fun u => ?_⟩
    split
    · exact Changes.ite (.refl _ _) (State.takeRequest_changes (.refl _ _) _ rfl)
    · exact .refl _ _
  | overrideClear f =>
    refine ⟨_, rfl, pairOk_receive_beside h _ _ _ fun u => ?_⟩
    split
    · exact Changes.ite (State.takeRequest_changes (.refl _ _) _ rfl) (.refl _ _)
    · exact .refl _ _
  | staleTimerExpiry q =>
    exact ⟨_, rfl, pairOk_running_beside h
      (State.onExpiry_changes (fun _ => State.removeRecord_changes (.refl _ _) _ rfl) (.refl _ _) _ rfl)⟩
  | sceneKey n => exact ⟨_, rfl, pairOk_whileRunning h (pairOk_pressKey h fun _ hu => pairOk_askLights hu _ _ _)⟩
  | lightUp => exact ⟨_, rfl, pairOk_whileRunning h (pairOk_pressKey h fun _ hu => pairOk_askLights hu _ _ _)⟩
  | lightDown => exact ⟨_, rfl, pairOk_whileRunning h (pairOk_pressKey h fun _ hu => pairOk_askLights hu _ _ _)⟩
  | blindsUp => exact ⟨_, rfl, pairOk_whileRunning h (pairOk_pressKey h fun _ hu => pairOk_askOwn hu _ _)⟩
  | blindsDown => exact ⟨_, rfl, pairOk_whileRunning h (pairOk_pressKey h fun _ hu => pairOk_askOwn hu _ _)⟩
  | blindsStop => exact ⟨_, rfl, pairOk_whileRunning h (pairOk_pressKey h fun _ hu => pairOk_askOwn hu _ _)⟩
  | airBoostKey => exact ⟨_, rfl, pairOk_whileRunning h (pairOk_pressKey h fun _ hu => pairOk_askOwn hu _ _)⟩
  | roomOff => exact ⟨_, rfl, pairOk_whileRunning h (pairOk_pressKey h fun _ hu => pairOk_askRoomOff hu)⟩
  | panelByteDiscard byte framingError => exact ⟨_, rfl, h⟩
  | indicatorSent => exact ⟨_, rfl, pairOk_beside h (State.indicatorDone_changes (.refl _ _) rfl)⟩
  | lifeSafetyEvacuate f =>
    refine ⟨_, rfl, pairOk_receive_beside h _ _ _ fun u => ?_⟩
    split
    · exact State.takeSafetyFrame_changes (.refl _ _) _ rfl
    · exact .refl _ _
  | lifeSafetySmokeHold f =>
    refine ⟨_, rfl, pairOk_receive_beside h _ _ _ fun u => ?_⟩
    split
    · exact State.takeSafetyFrame_changes (.refl _ _) _ rfl
    · exact .refl _ _
  | lifeSafetyClear f =>
    refine ⟨_, rfl, pairOk_receive_beside h _ _ _ fun u => ?_⟩
    split
    · exact State.takeSafetyFrame_changes (.refl _ _) _ rfl
    · exact .refl _ _
  | fireChange asserted => exact ⟨_, rfl, pairOk_beside h (State.fireTo_changes (.refl _ _) _ rfl)⟩
  | holdOn f =>
    refine ⟨_, rfl, pairOk_receive_beside h _ _ _ fun u => ?_⟩
    split
    · exact Changes.ite (State.holdOnNow_changes (.refl _ _) rfl) (.refl _ _)
    · exact .refl _ _
  | holdOff f =>
    refine ⟨_, rfl, pairOk_receive_beside h _ _ _ fun u => ?_⟩
    split
    · exact Changes.ite (State.holdOffNow_changes (.refl _ _) rfl) (.refl _ _)
    · exact .refl _ _
  | restart f =>
    refine ⟨_, rfl, pairOk_receive_beside h _ _ _ fun u => ?_⟩
    split
    · exact Changes.ite (State.softRestart_changes (.refl _ _) rfl) (.refl _ _)
    · exact .refl _ _
  | query f =>
    refine ⟨_, rfl, pairOk_receive_beside h _ _ _ fun u => ?_⟩
    split
    · exact State.answerQuery_changes (.refl _ _) _ _ rfl
    · exact .refl _ _
  | otherFrame kind f => exact ⟨_, rfl, pairOk_receive_beside h _ _ _ fun u => .refl _ _⟩
  | frameDiscard bytes badStop => exact ⟨_, rfl, pairOk_running_beside h (State.discardFrame_changes (.refl _ _) _ _ rfl)⟩
  | frameIdleTimeout bytes badStop => exact ⟨_, rfl, pairOk_running_beside h (State.timeoutFrame_changes (.refl _ _) _ rfl)⟩
  | statusPeriodExpiry =>
    exact ⟨_, rfl, pairOk_running_beside h (State.statusPeriod_changes (State.advanceTo_changes (.refl _ _) _ rfl) rfl)⟩
  | attemptStart => exact ⟨_, rfl, pairOk_running_beside h (State.startAttempt_changes (.refl _ _) rfl)⟩
  | transmitCompletion => exact ⟨_, rfl, pairOk_whileRunning h (pairOk_completeAttempt h)⟩
  | collision => exact ⟨_, rfl, pairOk_running_beside h (State.collide_changes (.refl _ _) rfl)⟩
  | backoffEnd => exact ⟨_, rfl, pairOk_running_beside h (State.endBackoff_changes (.refl _ _) rfl)⟩
  | longPauseEnd =>
    exact ⟨_, rfl, pairOk_running_beside h
      (State.onExpiry_changes (fun _ => State.endPause_changes (.refl _ _) rfl) (.refl _ _) _ rfl)⟩

/-- A step runs the front command, or lets the receive path or the oscillator go on, which the pair does not see. -/
theorem pairOk_step {s t : State} (h : PairOk s) (hstep : step s = .next t) : PairOk t := by
  unfold step at hstep
  split at hstep
  · rw [← Host.Outcome.next.inj hstep]
    exact pairOk_beside h (State.idle_changes s).mono
  next c rest _ =>
    have hrest : PairOk { s with pending := rest } := pairOk_congr h rfl rfl rfl rfl rfl rfl rfl rfl
    obtain ⟨u, hu, hok⟩ := pairOk_exec c hrest
    rw [hu] at hstep
    rw [← Host.Outcome.next.inj hstep]
    exact hok

/-- Settles O7: the invariant is carried through every operation that reaches the pair; every other command leaves beside it. -/
theorem thePairStaysConsistent : Obligations.ThePairStaysConsistent :=
  fun _ _ h hstep => pairOk_step h hstep

end Sys2Proof.Machine.EvidenceProofs
end

section
/-! SUPPORT. What an evaluation, a decision of the bank targets and a latched occurrence answer, and what the records and targets
they form are formed from. -/

namespace Sys2Proof.Machine.EvidenceProofs

/-! ### Running commands -/

theorem whileRunning_of_running {s : State} (h : s.isRunning = true) (act : State → State) : s.whileRunning act = act s :=
  if_pos h

/-! ### Latches -/

theorem latchEvent_latches (s : State) (d : Detail) :
    (s.latchEvent d).link.latches =
      s.link.latches.set d.kind
        (some (latchOccurrence (s.link.latches.get d.kind) d (s.inFlight (.event d.kind)) (s.statusCarries d.kind))) := by
  unfold State.latchEvent
  dsimp only
  split
  · have hq : ∀ u : State, (u.queueReport (.event d.kind)).link.latches = u.link.latches := fun u =>
      Changes.link_latches (ps := [.queue]) (State.queueReport_changes (.refl _ _) _ rfl)
    rw [hq]
    rfl
  · rfl

theorem latchEvent_latches_other (s : State) (d : Detail) {k : EventKind} (hk : k ≠ d.kind) :
    (s.latchEvent d).link.latches.get k = s.link.latches.get k := by
  rw [latchEvent_latches, PerEvent.get_set_other _ _ hk]

theorem inFlight_congr {s t : State} (h : t.link.attempt = s.link.attempt) (k : ReportKind) : t.inFlight k = s.inFlight k := by
  unfold State.inFlight
  rw [h]

theorem statusCarries_congr {s t : State} (h : t.link.attempt = s.link.attempt) (k : EventKind) :
    t.statusCarries k = s.statusCarries k := by
  unfold State.statusCarries
  rw [h]

theorem latched_latchEvent (s : State) (d : Detail) : Latched s (s.latchEvent d) d := by
  unfold Latched
  rw [latchEvent_latches, PerEvent.get_set_same]

/-- An occurrence latched from one state to another is so from any earlier state with the same latch and frames in flight to any
later one with the same latch. -/
theorem latched_between {s u v t : State} {d : Detail} (h : Latched u v d)
    (hlatch : u.link.latches.get d.kind = s.link.latches.get d.kind)
    (hflight : u.inFlight (.event d.kind) = s.inFlight (.event d.kind)) (hstatus : u.statusCarries d.kind = s.statusCarries d.kind)
    (hend : t.link.latches.get d.kind = v.link.latches.get d.kind) : Latched s t d := by
  unfold Latched at h ⊢
  rw [hend, h, hlatch, hflight, hstatus]

theorem latched_widen {s u v t : State} {d : Detail} (h : Latched u v d)
    (hlatch : u.link.latches.get d.kind = s.link.latches.get d.kind) (hattempt : u.link.attempt = s.link.attempt)
    (hend : t.link.latches.get d.kind = v.link.latches.get d.kind) : Latched s t d :=
  latched_between h hlatch (inFlight_congr hattempt _) (statusCarries_congr hattempt _) hend

/-! ### The own demand record -/

/-- The parts that the own demand record is formed from (R71). -/
abbrev recordInputs : List Part :=
  [.loader, .peers, .records, .door, .headcount, .samples, .occupancy, .pairState, .pairData, .overrideRecords, .modes]

theorem recordOf_congr {s t : State} (h : t.sessions.records = s.sessions.records) : t.recordOf = s.recordOf :=
  funext fun _ => by unfold State.recordOf; rw [h]

theorem isLead_congr {s t : State} (h : t.pair.state = s.pair.state) : t.isLead = s.isLead := by
  unfold State.isLead
  rw [h]

theorem isFollower_congr {s t : State} (h : t.pair.state = s.pair.state) : t.isFollower = s.isFollower := by
  unfold State.isFollower
  rw [h]

theorem isJoined_congr {s t : State} (h : t.pair.state = s.pair.state) : t.isJoined = s.isJoined := by
  unfold State.isJoined
  rw [isLead_congr h, isFollower_congr h]

theorem lifeSafetyActive_congr {s t : State} (h : t.overrides.lifeSafety = s.overrides.lifeSafety) :
    t.lifeSafetyActive = s.lifeSafetyActive := by
  unfold State.lifeSafetyActive
  rw [h]

theorem sessionId_congr {s t : State} (hstate : t.pair.state = s.pair.state) (hcurrent : t.room.current = s.room.current)
    (hmirrored : t.room.mirroredId = s.room.mirroredId) : t.sessionId = s.sessionId := by
  unfold State.sessionId
  rw [isFollower_congr hstate, hcurrent, hmirrored]

theorem currentRecord_congr {s t : State} (hcurrent : t.room.current = s.room.current)
    (hrecords : t.sessions.records = s.sessions.records) : t.currentRecord = s.currentRecord := by
  unfold State.currentRecord
  rw [hcurrent, recordOf_congr hrecords]

section OwnRecord
variable {ps : List Part} {s t : State}

theorem leafShare_of_changes (h : Changes ps s t) (hp : ∀ p ∈ recordInputs, p ∉ ps) (n : Nat) : t.leafShare n = s.leafShare n := by
  unfold State.leafShare State.partnerMax State.peerOf
  rw [h.cfg (hp _ (by decide)), h.peers (hp _ (by decide))]

theorem expectedCount_of_changes (h : Changes ps s t) (hp : ∀ p ∈ recordInputs, p ∉ ps) : t.expectedCount = s.expectedCount := by
  have hstate := h.pair_state (hp _ (by decide))
  unfold State.expectedCount State.followedRecord
  rw [sessionId_congr hstate (h.room_current (hp _ (by decide))) (h.room_mirroredId (hp _ (by decide))),
    recordOf_congr (h.sessions_records (hp _ (by decide)))]
  split
  · rfl
  · rw [isJoined_congr hstate, leafShare_of_changes h hp]

theorem baseCount_of_changes (h : Changes ps s t) (hp : ∀ p ∈ recordInputs, p ∉ ps) : t.baseCount = s.baseCount := by
  unfold State.baseCount
  rw [isJoined_congr (h.pair_state (hp _ (by decide))), h.pair_combined (hp _ (by decide)), leafShare_of_changes h hp,
    h.evidence_headcount (hp _ (by decide))]

theorem effectiveCount_of_changes (h : Changes ps s t) (hp : ∀ p ∈ recordInputs, p ∉ ps) :
    t.effectiveCount = s.effectiveCount := by
  unfold State.effectiveCount State.doorFault
  rw [h.evidence_stuckMark (hp _ (by decide)), h.room_occupancy (hp _ (by decide)), baseCount_of_changes h hp,
    expectedCount_of_changes h hp]

theorem co2Trim_of_changes (h : Changes ps s t) (hp : ∀ p ∈ recordInputs, p ∉ ps) : t.co2Trim = s.co2Trim := by
  unfold State.co2Trim
  rw [h.evidence_co2Fault (hp _ (by decide)), h.evidence_co2 (hp _ (by decide)), h.cfg (hp _ (by decide))]

theorem rowDemand_of_changes (h : Changes ps s t) (hp : ∀ p ∈ recordInputs, p ∉ ps) : t.rowDemand = s.rowDemand := by
  unfold State.rowDemand State.vacantFloor
  rw [h.room_occupancy (hp _ (by decide)), h.cfg (hp _ (by decide)), expectedCount_of_changes h hp,
    effectiveCount_of_changes h hp, co2Trim_of_changes h hp]

end OwnRecord

/-- The own record depends on its inputs alone. -/
theorem ownRecord_of_changes {ps : List Part} {s t : State} (h : Changes ps s t) (hp : ∀ p ∈ recordInputs, p ∉ ps := by decide) :
    t.ownRecord = s.ownRecord := by
  unfold State.ownRecord State.adjustedDemand State.ownClass State.vacantFloor
  rw [lifeSafetyActive_congr (h.overrides_lifeSafety (hp _ (by decide))), h.cfg (hp _ (by decide)),
    h.overrides_records (hp _ (by decide)), h.room_occupancy (hp _ (by decide)), rowDemand_of_changes h hp]

/-- What an evaluation can change. -/
theorem evaluate_changes (s : State) : Changes [.damper, .queue, .airRecord, .grant] s s.evaluate :=
  State.evaluate_changes (.refl _ _) rfl

/-- After an evaluation the engine holds the own record as its inputs give it. -/
theorem evaluate_heldRecord (s : State) : s.evaluate.heldRecord = s.evaluate.ownRecord := by
  rw [ownRecord_of_changes (evaluate_changes s)]
  unfold State.evaluate
  dsimp only
  split
  next heq => exact heq.symm
  next =>
    have hr : Changes [.damper, .grant] (s.holdRecord s.ownRecord) (s.holdRecord s.ownRecord).recompute :=
      State.recompute_changes (.refl _ _) rfl
    have hq : Changes [.queue] (s.holdRecord s.ownRecord).recompute
        ((s.holdRecord s.ownRecord).recompute.queueReport .demand) := State.queueReport_changes (.refl _ _) _ rfl
    split
    · simp only [State.heldRecord, hq.air, hr.air_demand, hr.air_floor, hr.air_airClass]
      rfl
    · simp only [State.heldRecord, hr.air_demand, hr.air_floor, hr.air_airClass]
      rfl

/-! ### The bank targets -/

/-- The parts that the bank targets are formed from (R107 to R111). -/
abbrev targetInputs : List Part := [.loader, .records, .occupancy, .light, .glare, .pairState, .mirror, .overrideRecords, .modes]

/-- The bank targets depend on their inputs alone. -/
theorem bankTarget_of_changes {ps : List Part} {s t : State} (h : Changes ps s t) (b : Bank)
    (hp : ∀ p ∈ targetInputs, p ∉ ps := by decide) : t.bankTarget b = s.bankTarget b := by
  have hfollower := isFollower_congr (h.pair_state (hp _ (by decide)))
  have hmirror := h.pair_mirror (hp _ (by decide))
  have hpolicy : t.effectivePolicy = s.effectivePolicy := by
    unfold State.effectivePolicy
    rw [hfollower, hmirror, h.light (hp _ (by decide)),
      currentRecord_congr (h.room_current (hp _ (by decide))) (h.sessions_records (hp _ (by decide)))]
  have hglare : t.glareInUse = s.glareInUse := by
    unfold State.glareInUse
    rw [hfollower, hmirror, h.shade_glare (hp _ (by decide))]
  unfold State.bankTarget State.policyTarget
  rw [lifeSafetyActive_congr (h.overrides_lifeSafety (hp _ (by decide))), h.overrides_records (hp _ (by decide)),
    h.cfg (hp _ (by decide)), h.room_occupancy (hp _ (by decide)), hpolicy, hglare]

theorem decideBank_held (s : State) (b : Bank) (t : Option Target) (b' : Bank) :
    (s.decideBank b t).shade.held.get b' = if b' = b then t else s.shade.held.get b' := by
  have hset : ∀ x, (s.setHeld b x).shade.held.get b' = if b' = b then x else s.shade.held.get b' := by
    intro x
    split
    next heq => rw [heq]; exact PerBank.get_set_same _ _ _
    next hne => exact PerBank.get_set_other _ _ hne
  unfold State.decideBank
  split
  · exact hset none
  next x =>
    split
    next hheld =>
      split
      next heq => rw [heq, hheld]
      next => rfl
    next =>
      have hreq : Changes [.motor, .queue, .latches, .drive] (s.setHeld b (some x)) ((s.setHeld b (some x)).requestBank b x) :=
        State.requestBank_changes (.refl _ _) _ _ rfl
      rw [hreq.shade_held]
      exact hset (some x)

/-- What a decision of the bank targets can change. -/
theorem reshade_changes (s : State) : Changes [.motor, .queue, .latches, .held, .drive, .handed] s s.reshade :=
  State.reshade_changes (.refl _ _) rfl

/-- Once the targets are decided, every bank holds its own. -/
theorem reshade_held (s : State) (b : Bank) : s.reshade.shade.held.get b = s.reshade.bankTarget b := by
  have hhand : Changes [.queue, .handed] s.decideTargets s.reshade := State.handCarried_changes (.refl _ _) rfl
  rw [bankTarget_of_changes (reshade_changes s) b, hhand.shade_held]
  show (((s.decideBank .bank1 (s.bankTarget .bank1)).decideBank .bank2 (s.bankTarget .bank2)).decideBank .bank3
    (s.bankTarget .bank3)).shade.held.get b = s.bankTarget b
  cases b <;> simp [decideBank_held]

end Sys2Proof.Machine.EvidenceProofs
end

section
/-! SUPPORT. The analogue inputs: the CO2, photocell and irradiance samples (R38 to R41, R100, R104). -/

namespace Sys2Proof.Machine.EvidenceProofs

/-! ### CO2 (R39) -/

theorem takeCo2_valid {s : State} {n : Nat} (h : 60 ≤ n ∧ n ≤ 1000) :
    s.takeCo2 n =
      ((s.modEvidence fun e => { e with co2Due := s.now + secs 10 }).modEvidence fun e =>
        { e with co2 := some (n * 5), co2Fault := false }).evaluate := if_pos h

theorem takeCo2_faulty {s : State} {n : Nat} (h : ¬ (60 ≤ n ∧ n ≤ 1000)) (hf : s.evidence.co2Fault = true) :
    s.takeCo2 n = s.modEvidence fun e => { e with co2Due := s.now + secs 10 } := by
  unfold State.takeCo2
  rw [if_neg h]
  exact if_pos hf

theorem takeCo2_failing {s : State} {n : Nat} (h : ¬ (60 ≤ n ∧ n ≤ 1000)) (hf : s.evidence.co2Fault = false) :
    s.takeCo2 n =
      (((s.modEvidence fun e => { e with co2Due := s.now + secs 10 }).modEvidence fun e => { e with co2Fault := true }).latchEvent
        (.sensorFault .co2)).evaluate := by
  unfold State.takeCo2
  rw [if_neg h]
  exact if_neg (by simp [hf])

/-- Settles O35, by the three cases of R39: a valid sample, a first invalid one, and one while the fault stands. -/
theorem co2SamplesAreTaken : Obligations.Co2SamplesAreTaken := by
  intro s counts hrun
  obtain ⟨n, hn⟩ : ∃ n, counts.toNat = n := ⟨_, rfl⟩
  let u := s.advanceTo s.evidence.co2Due
  refine ⟨u.takeCo2 n, by rw [← hn]; exact congrArg _ (whileRunning_of_running hrun _), ?_⟩
  rw [hn]
  have htime : (u.takeCo2 n).now = u.now :=
    Changes.now (ps := [.damper, .queue, .latches, .samples, .airRecord, .grant]) (State.takeCo2_changes (.refl _ _) _ rfl)
  rw [htime]
  by_cases hvalid : 60 ≤ n ∧ n ≤ 1000
  · rw [takeCo2_valid hvalid]
    have he := evaluate_changes ((u.modEvidence fun e => { e with co2Due := u.now + secs 10 }).modEvidence fun e =>
        { e with co2 := some (n * 5), co2Fault := false })
    refine ⟨rfl, by rw [he.evidence_co2Due]; rfl, fun _ _ => ⟨?_, ?_, evaluate_heldRecord _, ?_⟩, fun hout => by omega⟩
    · rw [he.evidence_co2, Nat.mul_comm 5]; rfl
    · rw [he.evidence_co2Fault]; rfl
    · rw [he.link_latches]; rfl
  · refine ⟨rfl, ?_⟩
    cases hf : s.evidence.co2Fault with
    | true =>
      rw [takeCo2_faulty (s := u) hvalid hf]
      refine ⟨rfl, fun h1 h2 => absurd ⟨h1, h2⟩ hvalid, fun _ => ⟨rfl, hf, fun h => (by cases h), fun _ => ?_⟩⟩
      exact State.modEvidence_changes (State.advanceTo_changes (.refl _ _) _ rfl) _ (.inr fun _ => ⟨rfl, rfl, rfl⟩)
        (.inr fun _ => rfl) (.inr fun _ => ⟨rfl, rfl, rfl, rfl⟩) (.inl rfl)
    | false =>
      rw [takeCo2_failing (s := u) hvalid hf]
      let v := (u.modEvidence fun e => { e with co2Due := u.now + secs 10 }).modEvidence fun e => { e with co2Fault := true }
      have hl : Changes [.queue, .latches] v (v.latchEvent (.sensorFault .co2)) := State.latchEvent_changes (.refl _ _) _ rfl
      have he := evaluate_changes (v.latchEvent (.sensorFault .co2))
      refine ⟨by rw [he.evidence_co2Due, hl.evidence_co2Due]; rfl, fun h1 h2 => absurd ⟨h1, h2⟩ hvalid,
        fun _ => ⟨by rw [he.evidence_co2, hl.evidence_co2]; rfl, by rw [he.evidence_co2Fault, hl.evidence_co2Fault]; rfl,
          fun _ => ⟨latched_widen (latched_latchEvent v _) rfl rfl (by rw [he.link_latches]), evaluate_heldRecord _⟩,
          fun h => (by cases h)⟩⟩

/-! ### Full-scale runs (R40, R41) -/

section Take
variable {a : AnalogueInput} {now counts value : Nat}

theorem take_below (h : counts < 1023) : a.take now counts value = { a with held := some value, run := none, fault := false } :=
  if_pos h

theorem take_faulty (h : ¬ counts < 1023) (hf : a.fault = true) : a.take now counts value = a := by
  unfold AnalogueInput.take
  rw [if_neg h, if_pos hf]

theorem take_first (h : ¬ counts < 1023) (hf : a.fault = false) (hr : a.run = none) :
    a.take now counts value = { a with held := some value, run := some ⟨now, a.held⟩ } := by
  unfold AnalogueInput.take
  rw [if_neg h, if_neg (by simp [hf]), hr]

theorem take_running {r : FullScaleRun} (h : ¬ counts < 1023) (hf : a.fault = false) (hr : a.run = some r)
    (ht : now - r.firstAt < 60000) : a.take now counts value = { a with held := some value } := by
  unfold AnalogueInput.take
  rw [if_neg h, if_neg (by simp [hf]), hr]
  exact if_pos ht

theorem take_expiring {r : FullScaleRun} (h : ¬ counts < 1023) (hf : a.fault = false) (hr : a.run = some r)
    (ht : 60000 ≤ now - r.firstAt) : a.take now counts value = { a with held := r.preRun, fault := true } := by
  unfold AnalogueInput.take
  rw [if_neg h, if_neg (by simp [hf]), hr]
  exact if_neg (Nat.not_lt.mpr ht)

end Take

theorem latchIfSet_quiet (s : State) {before after : Bool} (i : SensorInput) (h : before = true ∨ after = false) :
    s.latchIfSet before after i = s := by
  rcases h with rfl | rfl <;> simp [State.latchIfSet]

theorem latchIfSet_set (s : State) (i : SensorInput) : s.latchIfSet false true i = s.latchEvent (.sensorFault i) := rfl

theorem latchIfSet_changes (s : State) (before after : Bool) (i : SensorInput) :
    Changes [.queue, .latches] s (s.latchIfSet before after i) := State.latchIfSet_changes (.refl _ _) _ _ _ rfl

/-! ### The loop step (R100, R102) -/

theorem driveDims_changes (s : State) : Changes [.dims] s s.driveDims := State.driveDims_changes (.refl _ _) rfl

theorem loopStep_changes (s : State) : Changes [.dims, .light] s s.loopStep := State.loopStep_changes (.refl _ _) rfl

theorem loopStep_safety {s : State} (h : s.lifeSafetyActive = true) : s.loopStep = s := if_pos h

theorem loopStep_light {s : State} (h : s.lifeSafetyActive = false) :
    s.loopStep.light = { s.light with restLevel := s.levelAtStep } := by
  unfold State.loopStep
  rw [if_neg (by simp [h]), (driveDims_changes _).light]
  rfl

theorem loopStep_dims {s : State} (h : s.lifeSafetyActive = false) (hh : s.overrides.hold = false) :
    s.loopStep.out.dim1 = s.loopStep.light.front ∧ s.loopStep.out.dim2 = s.loopStep.light.restLevel := by
  rw [loopStep_light h]
  unfold State.loopStep State.driveDims
  rw [if_neg (by simp [h]), if_neg (by rw [Bool.not_eq_true]; exact h), if_neg (by simp [hh])]
  exact ⟨rfl, rfl⟩

theorem loopStep_held {s : State} (h : s.lifeSafetyActive = false) (hh : s.overrides.hold = true) : s.loopStep.out = s.out := by
  unfold State.loopStep State.driveDims
  rw [if_neg (by simp [h]), if_neg (by rw [Bool.not_eq_true]; exact h), if_pos (by exact hh)]
  rfl

theorem levelAtStep_held {s : State} {lux : Nat} (hf : s.evidence.photo.fault = false) (hl : s.evidence.photo.held = some lux) :
    s.levelAtStep =
      if s.light.loopTarget = 0 then 0
      else (clampInt 0 1000 (s.light.restLevel + loopStepSize s.light.loopTarget lux s.cfg.loopGain)).toNat := by
  unfold State.levelAtStep
  rw [hf, hl]

theorem levelAtStep_faulty {s : State} (hf : s.evidence.photo.fault = true) :
    s.levelAtStep = if s.light.loopTarget = 0 then 0 else min 1000 (2 * s.light.loopTarget) := by
  unfold State.levelAtStep
  rw [hf, Nat.mul_comm 2]
  rfl

/-! ### The photocell -/

/-- The photocell's input as a sample leaves it. -/
def withPhoto (s : State) (a : AnalogueInput) : State := s.modEvidence fun e => { e with photo := a }

theorem withPhoto_changes (s : State) (a : AnalogueInput) : Changes [.samples] s (withPhoto s a) :=
  State.modEvidence_changes (.refl _ _) _ (.inr fun _ => ⟨rfl, rfl, rfl⟩) (.inr fun _ => rfl) (.inr fun _ => ⟨rfl, rfl, rfl, rfl⟩)
    (.inl rfl)

/-- A photocell sample taken, but for the loop step. -/
def photoRead (s : State) (n : Nat) : State :=
  (withPhoto s { s.evidence.photo.take s.now n (luxOf n) with sampleDue := s.now + secs 2 }).latchIfSet
    s.evidence.photo.fault (s.evidence.photo.take s.now n (luxOf n)).fault .photo

theorem takePhoto_eq (s : State) (n : Nat) : s.takePhoto n = (photoRead s n).loopStep := rfl

theorem photoRead_photo (s : State) (n : Nat) :
    (photoRead s n).evidence.photo = { s.evidence.photo.take s.now n (luxOf n) with sampleDue := s.now + secs 2 } := by
  unfold photoRead
  rw [(latchIfSet_changes _ _ _ _).evidence]
  rfl

theorem photoRead_changes (s : State) (n : Nat) : Changes [.samples, .queue, .latches] s (photoRead s n) :=
  (withPhoto_changes _ _).mono.trans (latchIfSet_changes _ _ _ _).mono

theorem photoRead_latches (s : State) (n : Nat)
    (h : s.evidence.photo.fault = true ∨ (s.evidence.photo.take s.now n (luxOf n)).fault = false) :
    (photoRead s n).link.latches = s.link.latches := by
  unfold photoRead
  rw [latchIfSet_quiet _ _ h]
  rfl

theorem photoRead_latched (s : State) (n : Nat) (hf : s.evidence.photo.fault = false)
    (ht : (s.evidence.photo.take s.now n (luxOf n)).fault = true) : Latched s (photoRead s n) (.sensorFault .photo) := by
  unfold photoRead
  rw [hf, ht, latchIfSet_set]
  refine latched_widen (latched_latchEvent _ _) ?_ ?_ (Eq.refl _) <;> rfl

/-- The rest level of a step by a held value. -/
theorem photoStep_held {s : State} {n lux : Nat} (hsafety : s.lifeSafetyActive = false)
    (hf : (s.evidence.photo.take s.now n (luxOf n)).fault = false)
    (hl : (s.evidence.photo.take s.now n (luxOf n)).held = some lux) :
    (photoRead s n).loopStep.light.restLevel =
      if s.light.loopTarget = 0 then 0
      else (clampInt 0 1000 (s.light.restLevel + loopStepSize s.light.loopTarget lux s.cfg.loopGain)).toNat := by
  have hc := photoRead_changes s n
  rw [loopStep_light (by rw [lifeSafetyActive_congr hc.overrides_lifeSafety, hsafety])]
  show (photoRead s n).levelAtStep = _
  rw [levelAtStep_held (lux := lux) (by rw [photoRead_photo]; exact hf) (by rw [photoRead_photo]; exact hl), hc.light, hc.cfg]

/-- The rest level of a step with the fault set. -/
theorem photoStep_faulty {s : State} {n : Nat} (hsafety : s.lifeSafetyActive = false)
    (hf : (s.evidence.photo.take s.now n (luxOf n)).fault = true) :
    (photoRead s n).loopStep.light.restLevel = if s.light.loopTarget = 0 then 0 else min 1000 (2 * s.light.loopTarget) := by
  have hc := photoRead_changes s n
  rw [loopStep_light (by rw [lifeSafetyActive_congr hc.overrides_lifeSafety, hsafety])]
  show (photoRead s n).levelAtStep = _
  rw [levelAtStep_faulty (by rw [photoRead_photo]; exact hf), hc.light]

/-- Settles O36, by the cases of R40 and R41: below full scale, a full-scale run as it begins, goes on and ends in the fault, and a
standing fault; each gives the held value by which the loop steps. -/
theorem photocellSamplesStepTheLoop : Obligations.PhotocellSamplesStepTheLoop := by
  intro s counts hrun
  obtain ⟨n, hn⟩ : ∃ n, counts.toNat = n := ⟨_, rfl⟩
  let u := s.advanceTo s.evidence.photo.sampleDue
  have hloop := loopStep_changes (photoRead u n)
  have hread := photoRead_changes u n
  have hphoto : (photoRead u n).loopStep.evidence.photo =
      { s.evidence.photo.take u.now n (luxOf n) with sampleDue := u.now + 2000 } := by
    rw [hloop.evidence_photo, photoRead_photo]
    rfl
  have hsafe : (photoRead u n).lifeSafetyActive = s.lifeSafetyActive := lifeSafetyActive_congr hread.overrides_lifeSafety
  have hhold : (photoRead u n).overrides.hold = s.overrides.hold := hread.overrides_hold
  have hlatches := hloop.link_latches
  refine ⟨(photoRead u n).loopStep, by rw [← hn]; exact congrArg _ (whileRunning_of_running hrun _), ?_⟩
  rw [hn]
  refine ⟨by rw [hloop.now, hread.now]; rfl, by rw [hphoto]; rfl, ?_, fun hbelow => ?_, fun hfull hf => ⟨fun hr => ?_, fun r hr ht => ?_,
    fun r hr ht => ?_⟩, fun hfull hf => ?_, fun hs => ?_, fun hs hh => ?_, fun hs hh => ?_⟩
  · cases hs : s.lifeSafetyActive with
    | true => rw [loopStep_safety (hsafe.trans hs), hread.light]; rfl
    | false => rw [loopStep_light (hsafe.trans hs), hread.light]; rfl
  · have ht : s.evidence.photo.take u.now n (luxOf n) = _ := take_below hbelow
    refine ⟨by rw [hphoto, ht, Nat.mul_comm 2]; rfl, by rw [hphoto, ht], by rw [hphoto, ht], ?_, fun hs => ?_⟩
    · rw [hlatches, photoRead_latches u n (.inr (congrArg (·.fault) ht))]
      rfl
    · exact photoStep_held (s := u) hs (congrArg (·.fault) ht) ((congrArg (·.held) ht).trans (by rw [Nat.mul_comm 2]; rfl))
  · have ht : s.evidence.photo.take u.now n (luxOf n) = _ := take_first (by omega) hf hr
    refine ⟨by rw [hphoto, ht, hfull]; rfl, by rw [hphoto, ht]; rfl, by rw [hphoto, ht]; exact hf, fun hs => ?_⟩
    exact photoStep_held (s := u) hs ((congrArg (·.fault) ht).trans hf) ((congrArg (·.held) ht).trans (by rw [hfull]; rfl))
  · have ht : s.evidence.photo.take u.now n (luxOf n) = _ := take_running (by omega) hf hr ht
    refine ⟨by rw [hphoto, ht, hfull]; rfl, by rw [hphoto, ht]; exact hr, by rw [hphoto, ht]; exact hf, fun hs => ?_⟩
    exact photoStep_held (s := u) hs ((congrArg (·.fault) ht).trans hf) ((congrArg (·.held) ht).trans (by rw [hfull]; rfl))
  · have ht : s.evidence.photo.take u.now n (luxOf n) = _ := take_expiring (by omega) hf hr ht
    refine ⟨by rw [hphoto, ht], by rw [hphoto, ht], ?_, fun hs => photoStep_faulty (s := u) hs (congrArg (·.fault) ht)⟩
    exact latched_widen (photoRead_latched u n hf (congrArg (·.fault) ht)) rfl rfl (by rw [hlatches])
  · have ht : s.evidence.photo.take u.now n (luxOf n) = _ := take_faulty (by omega) hf
    refine ⟨by rw [hphoto, ht]; rfl, ?_, fun hs => photoStep_faulty (s := u) hs ((congrArg (·.fault) ht).trans hf)⟩
    rw [hlatches, photoRead_latches u n (.inl hf)]
    rfl
  · rw [loopStep_safety (hsafe.trans hs), hread.light]
    rfl
  · exact loopStep_dims (hsafe.trans hs) (hhold.trans hh)
  · rw [loopStep_held (hsafe.trans hs) (hhold.trans hh), hread.out]
    rfl

/-! ### Irradiance and glare (R104, R106) -/

/-- The irradiance input as a sample leaves it. -/
def withIrrad (s : State) (a : AnalogueInput) : State := s.modEvidence fun e => { e with irrad := a }

theorem withIrrad_changes (s : State) (a : AnalogueInput) : Changes [.samples] s (withIrrad s a) :=
  State.modEvidence_changes (.refl _ _) _ (.inr fun _ => ⟨rfl, rfl, rfl⟩) (.inr fun _ => rfl) (.inr fun _ => ⟨rfl, rfl, rfl, rfl⟩)
    (.inl rfl)

/-- An irradiance sample whose reading does not set the fault flag. -/
theorem takeIrradiance_quiet {s : State} {n : Nat} {a : AnalogueInput} (ha : s.evidence.irrad.take s.now n (irradianceOf n) = a)
    (h : s.evidence.irrad.fault = true ∨ a.fault = false) :
    s.takeIrradiance n = (withIrrad s { a with sampleDue := s.now + secs 10 }).glareReading := by
  subst ha
  exact congrArg State.glareReading (latchIfSet_quiet _ _ h)

/-- An irradiance sample whose reading sets the fault flag. -/
theorem takeIrradiance_setting {s : State} {n : Nat} {a : AnalogueInput} (ha : s.evidence.irrad.take s.now n (irradianceOf n) = a)
    (hf : s.evidence.irrad.fault = false) (ht : a.fault = true) :
    s.takeIrradiance n = ((withIrrad s { a with sampleDue := s.now + secs 10 }).latchEvent (.sensorFault .irrad)).glareReading := by
  subst ha
  rw [← latchIfSet_set, ← hf, ← ht]
  rfl

/-- With the fault set, no comparison is made and the dwell stands stopped (R106). -/
theorem glareReading_faulty {s : State} (h : s.evidence.irrad.fault = true) : s.glareReading = s.setGlare s.shade.glare none :=
  if_pos h

theorem setGlare_changes (s : State) (g : Bool) (d : Option Nat) : Changes [.glare] s (s.setGlare g d) :=
  State.setGlare_changes (.refl _ _) _ _ rfl

/-- Without the fault, the held value is compared with the thresholds (R104). -/
theorem glareReading_compared {s : State} {v : Nat} (hf : s.evidence.irrad.fault = false) (hv : s.evidence.irrad.held = some v) :
    GlareCompared s s.glareReading v := by
  have hread : s.glareReading =
      if !s.shade.glare then (if s.cfg.glareThreshold < v then (s.setGlare true none).reshade else s)
      else if s.cfg.glareThreshold - s.cfg.hysteresis ≤ v then s.setGlare true none
      else if s.shade.dwellDue.isSome then s else s.setGlare true (some (s.now + 600000)) := by
    have hmins : mins 10 = 600000 := rfl
    unfold State.glareReading
    rw [if_neg (by simp [hf]), hv, hmins]
  have hself : ∀ ps, Changes ps s s := fun ps => .refl ps s
  have hset : ∀ d, Changes [.now, .samples, .glare] s (s.setGlare true d) := fun d => (setGlare_changes s true d).mono
  refine ⟨fun hg hv => ?_, fun hg hv => ?_, fun hg hv => ?_, fun hg hv => ?_⟩ <;> rw [hread, hg]
  · simp only [Bool.not_false, if_true, if_pos hv]
    have hr := reshade_changes (s.setGlare true none)
    exact ⟨by rw [hr.shade_glare]; rfl, by rw [hr.shade_dwellDue]; rfl, reshade_held _⟩
  · simp only [Bool.not_false, if_true, if_neg (Nat.not_lt.mpr hv)]
    exact hself _
  · simp only [Bool.not_true, Bool.false_eq_true, if_false, if_pos hv]
    exact ⟨rfl, rfl, hset _⟩
  · simp only [Bool.not_true, Bool.false_eq_true, if_false, if_neg (Nat.not_le.mpr hv)]
    cases hd : s.shade.dwellDue with
    | none => exact ⟨rfl, by simp [State.setGlare], hset _⟩
    | some d => exact ⟨hg, hd, hself _⟩

/-- A comparison from a later state that differs in the time and the samples alone. -/
theorem glareCompared_widen {s u t : State} {v : Nat} (hu : Changes [.now, .samples] s u) (h : GlareCompared u t v) :
    GlareCompared s t v := by
  obtain ⟨hrise, hlow, hstop, hdwell⟩ := h
  rw [hu.shade_glare, hu.cfg] at hrise hlow hstop hdwell
  rw [hu.shade_dwellDue] at hdwell
  refine ⟨hrise, fun hg hv => hu.trans (hlow hg hv), fun hg hv => ?_, fun hg hv => ?_⟩
  · obtain ⟨hglare, hdue, hc⟩ := hstop hg hv
    exact ⟨hglare, hdue, hu.mono.trans hc⟩
  · obtain ⟨hglare, hdue, hc⟩ := hdwell hg hv
    exact ⟨hglare, hdue, hu.mono.trans hc⟩

theorem glareReading_changes (s : State) :
    Changes [.motor, .queue, .latches, .glare, .held, .drive, .handed] s s.glareReading :=
  State.glareReading_changes (.refl _ _) rfl

/-- A sample that leaves a value held and no fault: it is held and compared. -/
theorem irradianceHeld {s : State} {n v : Nat} {a : AnalogueInput}
    (ha : s.evidence.irrad.take (s.advanceTo s.evidence.irrad.sampleDue).now n (irradianceOf n) = a) (hf : a.fault = false)
    (hv : a.held = some v) :
    ((s.advanceTo s.evidence.irrad.sampleDue).takeIrradiance n).evidence.irrad =
        ⟨some v, a.run, false, max s.now s.evidence.irrad.sampleDue + 10000⟩ ∧
      GlareCompared s ((s.advanceTo s.evidence.irrad.sampleDue).takeIrradiance n) v := by
  rw [takeIrradiance_quiet (s := s.advanceTo _) ha (.inr hf)]
  obtain ⟨held, run, fault, due⟩ := a
  obtain rfl : fault = false := hf
  obtain rfl : held = some v := hv
  refine ⟨by rw [(glareReading_changes _).evidence_irrad]; rfl, glareCompared_widen ?_ (glareReading_compared rfl rfl)⟩
  exact (State.advanceTo_changes (.refl _ _) _ rfl).trans (withIrrad_changes _ _).mono

/-- Settles O37, by the cases of R41 for the sample and by the decision of the targets for the dwell's end. -/
theorem irradianceSetsAndClearsGlare : Obligations.IrradianceSetsAndClearsGlare := by
  refine ⟨fun s counts hrun => ?_, fun s due hrun hdue => ?_⟩
  · obtain ⟨n, hn⟩ : ∃ n, counts.toNat = n := ⟨_, rfl⟩
    let u := s.advanceTo s.evidence.irrad.sampleDue
    have hadv : Changes [.now, .samples] s u := State.advanceTo_changes (.refl _ _) _ rfl
    have htime : (u.takeIrradiance n).now = u.now :=
      Changes.now (ps := [.motor, .queue, .latches, .samples, .glare, .held, .drive, .handed])
        (State.takeIrradiance_changes (.refl _ _) _ rfl)
    refine ⟨u.takeIrradiance n, by rw [← hn]; exact congrArg _ (whileRunning_of_running hrun _), htime, ?_⟩
    rw [hn]
    refine ⟨fun hbelow => irradianceHeld (take_below hbelow) rfl rfl, fun hfull hf => ⟨fun hr => ?_, fun r hr ht => ?_, fun r hr ht => ?_⟩,
      fun hfull hf => ?_⟩
    · have hv : irradianceOf n = 1227 := by rw [hfull]; rfl
      exact irradianceHeld (take_first (by omega) hf hr) hf (congrArg some hv)
    · have hv : irradianceOf n = 1227 := by rw [hfull]; rfl
      have ha : s.evidence.irrad.take u.now n (irradianceOf n) = _ := take_running (by omega) hf hr ht
      have hheld := irradianceHeld ha hf (congrArg some hv)
      rwa [hr] at hheld
    · have ha : s.evidence.irrad.take u.now n (irradianceOf n) = _ := take_expiring (by omega) hf hr ht
      rw [takeIrradiance_setting (s := u) ha hf rfl, glareReading_faulty ?fault]
      case fault =>
        rw [Changes.evidence_irrad (ps := [.queue, .latches]) (State.latchEvent_changes (.refl _ _) _ rfl)]
        rfl
      let v := withIrrad u ⟨r.preRun, s.evidence.irrad.run, true, u.now + secs 10⟩
      have hl : Changes [.queue, .latches] v (v.latchEvent (.sensorFault .irrad)) := State.latchEvent_changes (.refl _ _) _ rfl
      have hg := setGlare_changes (v.latchEvent (.sensorFault .irrad)) (v.latchEvent (.sensorFault .irrad)).shade.glare none
      refine ⟨?_, latched_widen (latched_latchEvent v _) rfl rfl rfl, ⟨?_, rfl, ?_⟩, ?_⟩
      · rw [hg.evidence_irrad, hl.evidence_irrad, ← hr]
        rfl
      · exact hl.shade_glare
      · exact (hg.shade_held).trans hl.shade_held
      · exact ((hadv.then (withIrrad_changes u _) : Changes [.now, .samples] s v).mono.then hl).then hg
    · have ha : s.evidence.irrad.take u.now n (irradianceOf n) = _ := take_faulty (by omega) hf
      rw [takeIrradiance_quiet (s := u) ha (.inl hf), glareReading_faulty ?fault]
      case fault => exact hf
      refine ⟨rfl, ⟨rfl, rfl, rfl⟩, ?_⟩
      exact (hadv.then (withIrrad_changes u _) : Changes [.now, .samples] s _).mono.then (setGlare_changes _ _ _)
  · let u := s.advanceTo due
    have hr := reshade_changes (u.setGlare false none)
    refine ⟨u.clearGlare, ?_, by rw [State.clearGlare, hr.now]; rfl, by rw [State.clearGlare, hr.shade_glare]; rfl,
      by rw [State.clearGlare, hr.shade_dwellDue]; rfl, reshade_held _⟩
    refine congrArg _ ((whileRunning_of_running hrun _).trans ?_)
    rw [hdue]
    rfl

end Sys2Proof.Machine.EvidenceProofs
end

section
/-! SUPPORT. The order of the report queue, and what a request to queue a report leaves queued (R172 to R174). -/

namespace Sys2Proof.Machine.EvidenceProofs

/-! ### The place of a kind -/

theorem number_injective {j k : EventKind} (h : j.number = k.number) : j = k := by
  have hback : ∀ k : EventKind, EventKind.all[k.number - 1]? = some k := fun k => by cases k <;> rfl
  exact Option.some.inj ((hback j).symm.trans (by rw [h, hback k]))

theorem number_bounds (k : EventKind) : 1 ≤ k.number ∧ k.number ≤ 16 := by cases k <;> decide

theorem kindOrder_le (k : ReportKind) : kindOrder k ≤ 20 := by
  cases k with
  | event k => have := number_bounds k; simp only [kindOrder]; omega
  | _ => decide

theorem kindOrder_injective {j k : ReportKind} (h : kindOrder j = kindOrder k) : j = k := by
  cases j with
  | event j =>
    have hj := number_bounds j
    cases k with
    | event k => exact congrArg _ (number_injective (Nat.succ.inj h))
    | _ => simp only [kindOrder] at h; omega
  | _ =>
    cases k with
    | event k => have hk := number_bounds k; simp only [kindOrder] at h; omega
    | _ => revert h; decide

/-- No two kinds have one place in the queue's order. -/
theorem urgency_injective {c : ConfigRecord} {j k : ReportKind} (h : urgency c j = urgency c k) : j = k := by
  have hj := kindOrder_le j
  have hk := kindOrder_le k
  unfold urgency at h
  exact kindOrder_injective (by omega)

/-! ### The queue in its order -/

/-- The queue stands in its strict order. -/
def QueueSorted (s : State) : Prop := s.link.queue.Pairwise fun a b => urgency s.cfg a.kind < urgency s.cfg b.kind

theorem queueSorted_congr {s t : State} (h : QueueSorted s) (hqueue : t.link.queue = s.link.queue) (hcfg : t.cfg = s.cfg) :
    QueueSorted t := by
  unfold QueueSorted
  rwa [hqueue, hcfg]

theorem mem_insertEntry {c : ConfigRecord} {e x : Entry} : ∀ {q : List Entry}, x ∈ insertEntry c e q ↔ x = e ∨ x ∈ q
  | [] => by simp [insertEntry]
  | y :: q => by
    unfold insertEntry
    split
    · exact List.mem_cons
    · rw [List.mem_cons, mem_insertEntry, List.mem_cons]
      tauto

theorem length_insertEntry {c : ConfigRecord} {e : Entry} : ∀ {q : List Entry}, (insertEntry c e q).length = q.length + 1
  | [] => rfl
  | y :: q => by
    unfold insertEntry
    split
    · rfl
    · simp [length_insertEntry]

theorem pairwise_insertEntry {c : ConfigRecord} {e : Entry} : ∀ {q : List Entry},
    q.Pairwise (fun a b => urgency c a.kind < urgency c b.kind) → (∀ x ∈ q, x.kind ≠ e.kind) →
      (insertEntry c e q).Pairwise fun a b => urgency c a.kind < urgency c b.kind
  | [], _, _ => List.pairwise_singleton _ _
  | y :: q, h, hne => by
    obtain ⟨hy, hq⟩ := List.pairwise_cons.mp h
    unfold insertEntry
    split
    next hlt =>
      refine List.pairwise_cons.mpr ⟨fun x hx => ?_, h⟩
      rcases List.mem_cons.mp hx with rfl | hx
      · exact hlt
      · exact hlt.trans (hy x hx)
    next hge =>
      refine List.pairwise_cons.mpr ⟨fun x hx => ?_, pairwise_insertEntry hq fun x hx => hne x (List.mem_cons_of_mem _ hx)⟩
      rcases mem_insertEntry.mp hx with rfl | hx
      · exact lt_of_le_of_ne (Nat.not_lt.mp hge) fun h => hne y List.mem_cons_self (urgency_injective h)
      · exact hy x hx

theorem isQueued_iff {s : State} {k : ReportKind} : s.isQueued k = true ↔ ∃ e ∈ s.link.queue, e.kind = k := by
  simp [State.isQueued]

theorem queueSorted_insertReport {s : State} (h : QueueSorted s) {e : Entry} (hne : ∀ x ∈ s.link.queue, x.kind ≠ e.kind) :
    QueueSorted (s.insertReport e) := pairwise_insertEntry h hne

theorem queueSorted_dropEntry {s : State} (h : QueueSorted s) (k : ReportKind) : QueueSorted (s.dropEntry k) :=
  List.Pairwise.filter _ h

theorem queueSorted_placeEntry {s : State} (h : QueueSorted s) {e : Entry} (hne : ∀ x ∈ s.link.queue, x.kind ≠ e.kind) :
    QueueSorted (s.placeEntry e) := by
  unfold State.placeEntry
  repeat' split
  · exact queueSorted_insertReport h hne
  · exact queueSorted_insertReport (queueSorted_dropEntry h _) fun x hx => hne x (List.mem_filter.mp hx).1
  · exact h
  · exact h

/-- The queue with each entry changed but for its kind. -/
theorem queueSorted_map {s : State} (h : QueueSorted s) {f : Entry → Entry} (hf : ∀ e, (f e).kind = e.kind) :
    QueueSorted (s.modLink fun l => { l with queue := l.queue.map f }) := by
  refine List.pairwise_map.mpr (List.Pairwise.imp (fun {a b} hab => ?_) h)
  rw [hf, hf]
  exact hab

theorem queueSorted_queueWith {s : State} (h : QueueSorted s) (k : ReportKind) (m : Option PairMsg) :
    QueueSorted (s.queueWith k m) := by
  unfold State.queueWith
  split
  · exact queueSorted_map h fun e => by split <;> rfl
  next hnot => exact queueSorted_placeEntry h fun x hx heq => hnot (isQueued_iff.mpr ⟨x, hx, heq⟩)

theorem queueSorted_queueReport {s : State} (h : QueueSorted s) (k : ReportKind) : QueueSorted (s.queueReport k) :=
  queueSorted_queueWith h k none

theorem queueSorted_setLatch {s : State} (h : QueueSorted s) (k : EventKind) (l : Option Latch) : QueueSorted (s.setLatch k l) := h

theorem queueSorted_latchEvent {s : State} (h : QueueSorted s) (d : Detail) : QueueSorted (s.latchEvent d) := by
  unfold State.latchEvent
  dsimp only
  split
  · exact queueSorted_queueReport (queueSorted_setLatch h _ _) _
  · exact queueSorted_setLatch h _ _

/-! ### Queued, if there is room -/

/-- The least urgent entry that is not in flight has its place in the queue: all behind it are in flight. -/
theorem leastUrgent_some {s : State} {v : Entry} (h : s.leastUrgent = some v) :
    ∃ ahead behind, s.link.queue = ahead ++ v :: behind ∧ s.inFlight v.kind = false ∧ ∀ x ∈ behind, s.inFlight x.kind = true := by
  obtain ⟨hv, as, bs, hq, has⟩ := List.find?_eq_some_iff_append.mp h
  refine ⟨bs.reverse, as.reverse, ?_, by simpa using hv, fun x hx => by simpa using has x (List.mem_reverse.mp hx)⟩
  rw [← List.reverse_reverse s.link.queue, hq]
  simp

theorem leastUrgent_none {s : State} (h : s.leastUrgent = none) : ∀ x ∈ s.link.queue, s.inFlight x.kind = true := by
  intro x hx
  simpa using List.find?_eq_none.mp h x (List.mem_reverse.mpr hx)

/-- Of an ordered queue, the entries not in flight are as urgent as the least urgent of them. -/
theorem urgency_le_leastUrgent {s : State} (hs : QueueSorted s) {v : Entry} (h : s.leastUrgent = some v) :
    ∀ x ∈ s.link.queue, s.inFlight x.kind = true ∨ x.kind = v.kind ∨ urgency s.cfg x.kind < urgency s.cfg v.kind := by
  obtain ⟨ahead, behind, hq, _, hbehind⟩ := leastUrgent_some h
  rw [QueueSorted, hq, List.pairwise_append] at hs
  obtain ⟨-, -, hahead⟩ := hs
  intro x hx
  rw [hq, List.mem_append, List.mem_cons] at hx
  rcases hx with hx | rfl | hx
  · exact .inr (.inr (hahead x hx v List.mem_cons_self))
  · exact .inr (.inl rfl)
  · exact .inl (hbehind x hx)

/-- The eviction takes one entry. -/
theorem length_dropEntry_leastUrgent {s : State} (hs : QueueSorted s) {v : Entry} (h : s.leastUrgent = some v) :
    s.link.queue.length = (s.dropEntry v.kind).link.queue.length + 1 := by
  obtain ⟨ahead, behind, hq, _, _⟩ := leastUrgent_some h
  rw [QueueSorted, hq, List.pairwise_append, List.pairwise_cons] at hs
  obtain ⟨-, ⟨hbehind, -⟩, hahead⟩ := hs
  have hkeep : ∀ l : List Entry, (∀ x ∈ l, x.kind ≠ v.kind) → l.filter (fun e => e.kind ≠ v.kind) = l := fun l hl =>
    List.filter_eq_self.mpr fun x hx => decide_eq_true (hl x hx)
  show _ = (s.link.queue.filter fun e => e.kind ≠ v.kind).length + 1
  rw [hq, List.filter_append, List.filter_cons_of_neg (by simp),
    hkeep ahead fun x hx heq => absurd (hahead x hx v List.mem_cons_self) (by rw [heq]; exact lt_irrefl _),
    hkeep behind fun x hx heq => absurd (hbehind x hx) (by rw [heq]; exact lt_irrefl _)]
  simp only [List.length_append, List.length_cons]
  omega

/-- A request to place a kind that is not queued leaves it queued if there is room, and no other kind less so. -/
theorem queuedIfRoom_placeEntry {s : State} (hs : QueueSorted s) {k j : ReportKind} (hj : s.isQueued j = false)
    (h : k = j ∨ QueuedIfRoom s k) (m : Option PairMsg) : QueuedIfRoom (s.placeEntry ⟨j, 0, false, m⟩) k := by
  have hfresh : ∀ x ∈ s.link.queue, x.kind ≠ j := fun x hx heq => by
    rw [isQueued_iff.mpr ⟨x, hx, heq⟩] at hj
    cases hj
  unfold State.placeEntry
  split
  next hroom =>
    refine .inl (isQueued_iff.mpr ?_)
    rcases h with rfl | h | h
    · exact ⟨_, mem_insertEntry.mpr (.inl rfl), rfl⟩
    · obtain ⟨x, hx, hk⟩ := isQueued_iff.mp h
      exact ⟨x, mem_insertEntry.mpr (.inr hx), hk⟩
    · omega
  next hfull =>
    have hlen : 8 ≤ s.link.queue.length := Nat.not_lt.mp hfull
    split
    next v hv =>
      have hle := urgency_le_leastUrgent hs hv
      obtain ⟨_, _, hq, hvf, _⟩ := leastUrgent_some hv
      have hmem : v ∈ s.link.queue := by rw [hq]; simp
      split
      next hlt =>
        have hlt : urgency s.cfg j < urgency s.cfg v.kind := hlt
        have hlen' : 8 ≤ ((s.dropEntry v.kind).insertReport ⟨j, 0, false, m⟩).link.queue.length := by
          have hd := length_dropEntry_leastUrgent hs hv
          show 8 ≤ (insertEntry _ _ _).length
          rw [length_insertEntry]
          omega
        rcases h with rfl | h
        · exact .inl (isQueued_iff.mpr ⟨_, mem_insertEntry.mpr (.inl rfl), rfl⟩)
        · by_cases hkept : s.isQueued k = true ∧ v.kind ≠ k
          · obtain ⟨x, hx, hk⟩ := isQueued_iff.mp hkept.1
            refine .inl (isQueued_iff.mpr ⟨x, mem_insertEntry.mpr (.inr (List.mem_filter.mpr ⟨hx, ?_⟩)), hk⟩)
            exact decide_eq_true (by rw [hk]; exact hkept.2.symm)
          · have hvk : urgency s.cfg v.kind ≤ urgency s.cfg k := by
              rcases h with h | ⟨-, h⟩
              · by_cases hv : v.kind = k
                · rw [hv]
                · exact absurd ⟨h, hv⟩ hkept
              · rcases h v hmem with h | h
                · rw [hvf] at h; cases h
                · exact le_of_lt h
            refine .inr ⟨hlen', fun x hx => ?_⟩
            rcases mem_insertEntry.mp hx with rfl | hx
            · exact .inr (lt_of_lt_of_le hlt hvk)
            · obtain ⟨hx, hxv⟩ := List.mem_filter.mp hx
              rcases hle x hx with hf | heq | hxlt
              · exact .inl hf
              · exact absurd heq (of_decide_eq_true hxv)
              · exact .inr (lt_of_lt_of_le hxlt hvk)
      next hge =>
        rcases h with rfl | h
        · refine .inr ⟨hlen, fun x hx => ?_⟩
          have hvk : urgency s.cfg v.kind < urgency s.cfg k :=
            lt_of_le_of_ne (Nat.not_lt.mp hge) fun heq => hfresh v hmem (urgency_injective heq)
          rcases hle x hx with hf | heq | hxlt
          · exact .inl hf
          · exact .inr (by rw [heq]; exact hvk)
          · exact .inr (hxlt.trans hvk)
        · exact h
    next hnone =>
      rcases h with rfl | h
      · exact .inr ⟨hlen, fun x hx => .inl (leastUrgent_none hnone x hx)⟩
      · exact h

theorem queuedIfRoom_map {s : State} {f : Entry → Entry} (hf : ∀ e, (f e).kind = e.kind) {k : ReportKind}
    (h : QueuedIfRoom s k) : QueuedIfRoom (s.modLink fun l => { l with queue := l.queue.map f }) k := by
  rcases h with h | ⟨hlen, h⟩
  · obtain ⟨x, hx, hk⟩ := isQueued_iff.mp h
    exact .inl (isQueued_iff.mpr ⟨f x, List.mem_map_of_mem hx, (hf x).trans hk⟩)
  · refine .inr ⟨by simpa using hlen, fun x hx => ?_⟩
    obtain ⟨y, hy, rfl⟩ := List.mem_map.mp hx
    rw [hf]
    exact h y hy

/-- A request to queue a kind leaves it queued if there is room, and no other kind less so. -/
theorem queuedIfRoom_queueReport {s : State} (hs : QueueSorted s) {k j : ReportKind} (h : k = j ∨ QueuedIfRoom s k) :
    QueuedIfRoom (s.queueReport j) k := by
  unfold State.queueReport State.queueWith
  split
  next hj =>
    refine queuedIfRoom_map (fun e => by split <;> rfl) ?_
    rcases h with rfl | h
    · exact .inl hj
    · exact h
  next hj => exact queuedIfRoom_placeEntry hs (Bool.eq_false_iff.mpr hj) h none

end Sys2Proof.Machine.EvidenceProofs
end

section
/-! SUPPORT. What the readers of a change leave of the link: every latch but BLIND_FAULT's, the attempt, and the queue in its
order. -/

namespace Sys2Proof.Machine.EvidenceProofs

/-- From the first state to the second, no latch but BLIND_FAULT's has changed, the attempt stands, and the queue stays in its
order. -/
structure LinkKept (s t : State) : Prop where
  attempt : t.link.attempt = s.link.attempt
  latches : ∀ k, k ≠ .blindFault → t.link.latches.get k = s.link.latches.get k
  sorted : QueueSorted s → QueueSorted t

theorem linkKept_refl (s : State) : LinkKept s s := ⟨rfl, fun _ _ => rfl, id⟩

theorem linkKept_trans {s t u : State} (h : LinkKept s t) (k : LinkKept t u) : LinkKept s u :=
  ⟨k.attempt.trans h.attempt, fun j hj => (k.latches j hj).trans (h.latches j hj), fun hs => k.sorted (h.sorted hs)⟩

/-- The parts that `LinkKept` does not read. -/
abbrev besideLink : List Part :=
  [.now, .phase, .pins, .dims, .damper, .motor, .receiver, .pauses, .linkTimers, .peers, .clock, .records, .transfer, .door,
    .headcount, .history, .samples, .occupancy, .switchMarker, .airRecord, .capacity, .grant, .published, .light, .glare, .held,
    .drive, .pairState, .partition, .offers, .pairTimers, .pairData, .mirror, .handed, .overrideRecords, .modes, .hold,
    .indicator, .draws, .line, .pending]

theorem linkKept_beside {s t : State} (h : Changes besideLink s t) : LinkKept s t :=
  ⟨h.link_attempt, fun _ _ => by rw [h.link_latches], fun hs => queueSorted_congr hs h.link_queue h.cfg⟩

theorem linkKept_queueReport (s : State) (k : ReportKind) : LinkKept s (s.queueReport k) := by
  have h : Changes [.queue] s (s.queueReport k) := State.queueReport_changes (.refl _ _) _ rfl
  exact ⟨h.link_attempt, fun _ _ => by rw [h.link_latches], fun hs => queueSorted_queueReport hs k⟩

theorem linkKept_blindFault (s : State) (b : Bank) : LinkKept s (s.latchEvent (.blindFault b)) := by
  have h : Changes [.queue, .latches] s (s.latchEvent (.blindFault b)) := State.latchEvent_changes (.refl _ _) _ rfl
  exact ⟨h.link_attempt, fun _ hk => latchEvent_latches_other s _ hk, fun hs => queueSorted_latchEvent hs _⟩

/-! ### The Blind Drive -/

theorem linkKept_startMove (s : State) (b : Bank) (t : Target) : LinkKept s (s.startMove b t) := by
  unfold State.startMove
  repeat' split
  · exact linkKept_trans (linkKept_beside (State.setUncertain_changes (.refl _ _) _ _ rfl)) (linkKept_blindFault _ _)
  · exact linkKept_beside (State.runMotor_changes (.refl _ _) _ rfl)
  · exact linkKept_beside (State.runMotor_changes (.refl _ _) _ rfl)

theorem linkKept_grantTurns : ∀ (n : Nat) (s : State), LinkKept s (State.grantTurns n s)
  | 0, s => linkKept_refl s
  | n + 1, s => by
    unfold State.grantTurns
    split
    · exact linkKept_refl s
    · split
      · exact linkKept_refl s
      next b t _ =>
        have hw : LinkKept s (s.setWaiting b none) := linkKept_beside (State.setWaiting_changes (.refl _ _) _ _ rfl)
        dsimp only
        split
        · exact linkKept_trans hw (linkKept_grantTurns n _)
        · exact linkKept_trans hw (linkKept_trans (linkKept_startMove _ _ _) (linkKept_grantTurns n _))

theorem linkKept_grant (s : State) : LinkKept s s.grant := linkKept_grantTurns 3 s

theorem linkKept_cutForRequest (s : State) (m : Move) (t : Target) : LinkKept s (s.cutForRequest m t) :=
  linkKept_trans (linkKept_beside (State.keepUnlessThere_changes (State.cutMove_changes (.refl _ _) _ rfl) _ _ rfl))
    (linkKept_grant _)

theorem linkKept_requestMoving (s : State) (m : Move) (t : Target) : LinkKept s (s.requestMoving m t) := by
  unfold State.requestMoving
  repeat' split
  · exact linkKept_cutForRequest s m t
  · exact linkKept_beside (State.modDrive_changes (.refl _ _) _ rfl)
  · exact linkKept_beside (State.modDrive_changes (.refl _ _) _ rfl)
  · exact linkKept_cutForRequest s m t

theorem linkKept_requestStanding (s : State) (b : Bank) (t : Target) : LinkKept s (s.requestStanding b t) := by
  have hw : ∀ x, LinkKept s (s.setWaiting b x) := fun x => linkKept_beside (State.setWaiting_changes (.refl _ _) _ _ rfl)
  unfold State.requestStanding
  repeat' split
  · exact hw _
  · exact linkKept_trans (hw _) (linkKept_trans (linkKept_startMove _ _ _) (linkKept_grant _))
  · exact hw _

theorem linkKept_requestBank (s : State) (b : Bank) (t : Target) : LinkKept s (s.requestBank b t) := by
  unfold State.requestBank
  repeat' split
  · exact linkKept_refl s
  · exact linkKept_requestMoving s _ t
  · exact linkKept_requestStanding s b t
  · exact linkKept_requestStanding s b t

/-! ### The lights, the blinds and the air -/

theorem linkKept_decideBank (s : State) (b : Bank) (t : Option Target) : LinkKept s (s.decideBank b t) := by
  have hh : ∀ x, LinkKept s (s.setHeld b x) := fun x => linkKept_beside (State.setHeld_changes (.refl _ _) _ _ rfl)
  unfold State.decideBank
  repeat' split
  · exact hh _
  · exact linkKept_refl s
  · exact linkKept_trans (hh _) (linkKept_requestBank _ _ _)

theorem linkKept_foldl {α : Type} {f : State → α → State} (hf : ∀ s a, LinkKept s (f s a)) :
    ∀ (l : List α) (s : State), LinkKept s (l.foldl f s)
  | [], s => linkKept_refl s
  | a :: l, s => linkKept_trans (hf s a) (linkKept_foldl hf l _)

theorem linkKept_handCarried (s : State) : LinkKept s s.handCarried := by
  have hp : LinkKept s (s.modPair fun p => { p with handed := s.carriedValues }) := ⟨rfl, fun _ _ => rfl, id⟩
  unfold State.handCarried
  dsimp only
  repeat' split
  · exact linkKept_refl s
  · exact linkKept_trans hp (linkKept_queueReport _ _)
  · exact hp

theorem linkKept_reshade (s : State) : LinkKept s s.reshade :=
  linkKept_trans (linkKept_foldl (fun _ _ => linkKept_decideBank _ _ _) _ s) (linkKept_handCarried _)

theorem linkKept_relight (s : State) : LinkKept s s.relight := linkKept_beside (State.relight_changes (.refl _ _) rfl)

theorem linkKept_relightAndShade (s : State) : LinkKept s s.relightAndShade :=
  linkKept_trans (linkKept_relight s) (linkKept_reshade _)

theorem linkKept_evaluate (s : State) : LinkKept s s.evaluate := by
  have hr : LinkKept s (s.holdRecord s.ownRecord).recompute :=
    linkKept_beside (State.recompute_changes (State.holdRecord_changes (.refl _ _) _ rfl) rfl)
  unfold State.evaluate
  dsimp only
  repeat' split
  · exact linkKept_refl s
  · exact linkKept_trans hr (linkKept_queueReport _ _)
  · exact hr

/-! ### The override records -/

theorem linkKept_handToReader (s : State) (q : Quantity) : LinkKept s (s.handToReader q) := by
  cases q with
  | lightScene => exact linkKept_relightAndShade s
  | lightLevel => exact linkKept_trans (linkKept_relight s) (linkKept_handCarried _)
  | blinds => exact linkKept_reshade s
  | airBoost => exact linkKept_evaluate s
  | holdVacant => exact linkKept_evaluate s

theorem linkKept_removeRecordIf (s : State) (p : OverrideRecord → Bool) (q : Quantity) : LinkKept s (s.removeRecordIf p q) := by
  unfold State.removeRecordIf State.removeRecord
  repeat' split
  · exact linkKept_trans (linkKept_beside (State.putRecord_changes (.refl _ _) _ _ rfl)) (linkKept_handToReader _ _)
  · exact linkKept_refl s
  · exact linkKept_refl s

theorem linkKept_removeWhere (s : State) (p : OverrideRecord → Bool) : LinkKept s (s.removeWhere p) :=
  linkKept_foldl (fun _ _ => linkKept_removeRecordIf _ _ _) _ s

/-- A record handed to its reader stays in the table. -/
theorem handToReader_records (s : State) (q : Quantity) : (s.handToReader q).overrides.records = s.overrides.records :=
  Changes.overrides_records
    (ps := [.dims, .damper, .motor, .queue, .latches, .airRecord, .grant, .light, .held, .drive, .handed])
    (State.handToReader_changes (.refl _ _) _ rfl)

theorem removeRecordIf_get (s : State) (p : OverrideRecord → Bool) (q q' : Quantity) :
    (s.removeRecordIf p q).overrides.records.get q' =
      if q' = q then (s.overrides.records.get q').filter fun r => !p r else s.overrides.records.get q' := by
  have hput : ∀ x, ((s.putRecord q x).handToReader q).overrides.records.get q' =
      if q' = q then x else s.overrides.records.get q' := fun x => by
    rw [handToReader_records]
    split
    next heq => rw [heq]; exact PerQuantity.get_set_same _ _ _
    next hne => exact PerQuantity.get_set_other _ _ hne
  unfold State.removeRecordIf State.removeRecord
  cases hr : s.overrides.records.get q with
  | none =>
    rw [if_neg (by simp)]
    split
    next heq => rw [heq, hr]; rfl
    next => rfl
  | some r =>
    cases hp : p r with
    | true =>
      rw [if_pos (by simp [hp]), if_pos (by rfl), hput]
      split
      next heq => rw [heq, hr]; simp [Option.filter, hp]
      next => rfl
    | false =>
      rw [if_neg (by simp [hp])]
      split
      next heq => rw [heq, hr]; simp [Option.filter, hp]
      next => rfl

/-- The records of the wanted sort are gone and the others stand. -/
theorem removeWhere_get (s : State) (p : OverrideRecord → Bool) (q : Quantity) :
    (s.removeWhere p).overrides.records.get q = (s.overrides.records.get q).filter fun r => !p r := by
  unfold State.removeWhere Quantity.all
  simp only [List.foldl_cons, List.foldl_nil, removeRecordIf_get]
  cases q <;> simp

theorem removeWhere_changes (s : State) (p : OverrideRecord → Bool) : Changes Part.readers s (s.removeWhere p) :=
  State.removeWhere_changes (.refl _ _) _ rfl

end Sys2Proof.Machine.EvidenceProofs
end

section
/-! SUPPORT. What the end of a handling does (R61, R66, R153), when a handling has no more to it (R36), and what an evidence event
and a declaration of vacancy answer (R32, R35, R53, R54). -/

namespace Sys2Proof.Machine.EvidenceProofs

/-! ### The end of a handling -/

theorem handSwitch_changes (s : State) : Changes [.switchMarker, .overrideRecords] s s.handSwitch :=
  State.handSwitch_changes (.refl _ _) rfl

theorem handOff_changes (s : State) (before : Occupancy × Option Nat) :
    Changes ([.switchMarker] ++ Part.readers) s (s.handOff before) := State.handOff_changes (.refl _ _) _ rfl

theorem handSwitch_marker (s : State) : s.handSwitch.room.switchMarker = false := by
  unfold State.handSwitch
  split
  · rfl
  next h => exact Bool.eq_false_iff.mpr h

/-- The switch marks the level-3 records that are not stale (R61, R153). -/
theorem handSwitch_get (s : State) (q : Quantity) :
    s.handSwitch.overrides.records.get q = (s.overrides.records.get q).map fun r =>
      if s.room.switchMarker = true ∧ r.level = 3 ∧ r.stale = none then { r with stale := some (s.now + 900000) } else r := by
  have hmins : mins 15 = 900000 := rfl
  unfold State.handSwitch
  split
  next h =>
    have hmap : ∀ v : PerQuantity (Option OverrideRecord), ∀ f, (v.mapHeld f).get q = (v.get q).map f := fun v f => by
      cases q <;> rfl
    show (s.overrides.records.mapHeld (markStaleRecord s.now)).get q = _
    rw [hmap]
    congr 1
    funext r
    rw [markStaleRecord, hmins]
    simp [h]
  next h =>
    have hid : (fun r : OverrideRecord => if s.room.switchMarker = true ∧ r.level = 3 ∧ r.stale = none then
        { r with stale := some (s.now + 900000) } else r) = id := by
      funext r
      simp [h]
    rw [hid, Option.map_id]
    rfl

theorem observed_of_changes {ps : List Part} {s t : State} (h : Changes ps s t) (ho : .occupancy ∉ ps := by decide)
    (hp : .pairState ∉ ps := by decide) : t.observed = s.observed := by
  unfold State.observed
  rw [h.room_occupancy ho, sessionId_congr (h.pair_state hp) (h.room_current ho) (h.room_mirroredId ho)]

theorem room_unmarked {r t : Room} (hoccupancy : t.occupancy = r.occupancy) (hcurrent : t.current = r.current)
    (hmirrored : t.mirroredId = r.mirroredId) (hscene : t.overrunScene = r.overrunScene) (hdue : t.overrunDue = r.overrunDue)
    (hmarker : t.switchMarker = false) : t = { r with switchMarker := false } := by
  cases t
  simp only at hoccupancy hcurrent hmirrored hscene hdue hmarker
  rw [hoccupancy, hcurrent, hmirrored, hscene, hdue, hmarker]

theorem handOff_room (s : State) (before : Occupancy × Option Nat) :
    (s.handOff before).room = { s.room with switchMarker := false } := by
  have hmarker : (s.handOff before).room.switchMarker = false := by
    have hr : ∀ u : State, Changes Part.readers u (u.evaluate.relightAndShade.dropStaleIfEmpty) := fun u =>
      State.dropStaleIfEmpty_changes (State.relightAndShade_changes (State.evaluate_changes (.refl _ _) rfl) rfl) rfl
    have hq : ∀ (u : State) (k : ReportKind), (u.queueReport k).room = u.room := fun u k =>
      Changes.room (ps := [.queue]) (State.queueReport_changes (.refl _ _) _ rfl)
    unfold State.handOff
    dsimp only
    repeat' split
    all_goals simp only [hq, (hr _).room_switchMarker, handSwitch_marker]
  have hc := handOff_changes s before
  exact room_unmarked hc.room_occupancy hc.room_current hc.room_mirroredId hc.room_overrunScene hc.room_overrunDue hmarker

theorem linkKept_ite {s t u : State} {c : Prop} [Decidable c] (h : LinkKept s t) (k : LinkKept s u) :
    LinkKept s (if c then t else u) := by
  split
  · exact h
  · exact k

theorem linkKept_dropStaleIfEmpty (s : State) : LinkKept s s.dropStaleIfEmpty := by
  unfold State.dropStaleIfEmpty
  split
  · exact linkKept_removeWhere s _
  · exact linkKept_removeWhere s _
  · exact linkKept_refl s

theorem linkKept_handSwitch (s : State) : LinkKept s s.handSwitch := linkKept_beside (handSwitch_changes s).mono

/-- Every reader takes a changed state. -/
theorem linkKept_readers (s : State) : LinkKept s s.evaluate.relightAndShade.dropStaleIfEmpty :=
  linkKept_trans (linkKept_evaluate s) (linkKept_trans (linkKept_relightAndShade _) (linkKept_dropStaleIfEmpty _))

theorem linkKept_handOff (s : State) (before : Occupancy × Option Nat) : LinkKept s (s.handOff before) := by
  unfold State.handOff
  dsimp only
  have hr := linkKept_trans (linkKept_handSwitch s) (linkKept_readers s.handSwitch)
  have hlead := linkKept_ite (c := s.handSwitch.evaluate.relightAndShade.dropStaleIfEmpty.isLead = true)
    (linkKept_trans hr (linkKept_queueReport _ .pairState)) hr
  exact linkKept_ite (linkKept_handSwitch s) (linkKept_ite hlead (linkKept_trans hlead (linkKept_queueReport _ _)))

/-- A changed state queues ROOM_STATUS, and at a lead a changed state or session id PAIR_STATE (R66, R139, R180). -/
theorem handOff_reported {s : State} (hs : QueueSorted s) (before : Occupancy × Option Nat) :
    (s.room.occupancy ≠ before.1 → QueuedIfRoom (s.handOff before) .roomStatus) ∧
      (s.isLead = true → s.observed ≠ before → QueuedIfRoom (s.handOff before) .pairState) := by
  let s1 := s.handSwitch.evaluate.relightAndShade.dropStaleIfEmpty
  have hc : Changes ([.switchMarker] ++ Part.readers) s s1 :=
    State.dropStaleIfEmpty_changes (State.relightAndShade_changes (State.evaluate_changes
      (State.handSwitch_changes (.refl _ _) rfl) rfl) rfl) rfl
  have hs1 : QueueSorted s1 := (linkKept_trans (linkKept_handSwitch s) (linkKept_readers _)).sorted hs
  have hobserved : s.handSwitch.observed = s.observed := observed_of_changes (handSwitch_changes s)
  by_cases hsame : s.observed = before
  · exact ⟨fun h => absurd (congrArg Prod.fst hsame) h, fun _ h => absurd hsame h⟩
  let s2 := if s1.isLead then s1.queueReport .pairState else s1
  have hoff : s.handOff before = if s2.room.occupancy = before.1 then s2 else s2.queueReport .roomStatus := by
    unfold State.handOff
    dsimp only
    rw [if_neg (by rwa [hobserved])]
  have hqc : Changes [.queue] s1 s2 := Changes.ite (State.queueReport_changes (.refl _ _) _ rfl) (.refl _ _)
  have hocc : s2.room.occupancy = s.room.occupancy := hqc.room_occupancy.trans hc.room_occupancy
  have hs2 : QueueSorted s2 := by
    show QueueSorted (if s1.isLead then _ else _)
    split
    · exact queueSorted_queueReport hs1 _
    · exact hs1
  rw [hoff, hocc]
  refine ⟨fun h => ?_, fun hlead _ => ?_⟩
  · rw [if_neg h]
    exact queuedIfRoom_queueReport hs2 (.inl rfl)
  · have hpair : QueuedIfRoom s2 .pairState := by
      show QueuedIfRoom (if s1.isLead then _ else _) _
      rw [if_pos (by rw [isLead_congr hc.pair_state]; exact hlead)]
      exact queuedIfRoom_queueReport hs1 (.inl rfl)
    split
    · exact hpair
    · exact queuedIfRoom_queueReport hs2 (.inr hpair)

/-- What of the override records the end of a handling leaves (R61, R153). -/
theorem handOff_get (s : State) (before : Occupancy × Option Nat) (q : Quantity) :
    (s.handOff before).overrides.records.get q =
      if s.observed ≠ before ∧ (s.room.occupancy = .vacant ∨ s.room.occupancy = .released) then
        (s.handSwitch.overrides.records.get q).filter fun r => r.stale.isNone
      else s.handSwitch.overrides.records.get q := by
  have hobserved : s.handSwitch.observed = s.observed := observed_of_changes (handSwitch_changes s)
  have hq : ∀ (u : State) (k : ReportKind), (u.queueReport k).overrides = u.overrides := fun u k =>
    Changes.overrides (ps := [.queue]) (State.queueReport_changes (.refl _ _) _ rfl)
  have hread : Changes [.dims, .damper, .motor, .queue, .latches, .airRecord, .grant, .light, .held, .drive, .handed] s.handSwitch
      s.handSwitch.evaluate.relightAndShade :=
    State.relightAndShade_changes (State.evaluate_changes (.refl _ _) rfl) rfl
  have hdrop : s.handSwitch.evaluate.relightAndShade.dropStaleIfEmpty.overrides.records.get q =
      if s.room.occupancy = .vacant ∨ s.room.occupancy = .released then
        (s.handSwitch.overrides.records.get q).filter fun r => r.stale.isNone
      else s.handSwitch.overrides.records.get q := by
    unfold State.dropStaleIfEmpty State.removeStale
    rw [hread.room_occupancy, (handSwitch_changes s).room_occupancy]
    split
    next h => rw [if_pos (.inl h), removeWhere_get, hread.overrides_records]; simp only [Option.not_isSome]
    next h => rw [if_pos (.inr h), removeWhere_get, hread.overrides_records]; simp only [Option.not_isSome]
    next h1 h2 => rw [if_neg (by rintro (h | h); exacts [h1 h, h2 h]), hread.overrides_records]
  by_cases hsame : s.observed = before
  · rw [if_neg (by simp [hsame]), State.handOff]
    dsimp only
    rw [if_pos (by rw [hobserved, hsame])]
  · have hoff : (s.handOff before).overrides = s.handSwitch.evaluate.relightAndShade.dropStaleIfEmpty.overrides := by
      unfold State.handOff
      dsimp only
      rw [if_neg (by rwa [hobserved])]
      repeat' split
      all_goals simp only [hq]
    rw [hoff, hdrop]
    simp only [ne_eq, hsame, not_false_eq_true, true_and]

end Sys2Proof.Machine.EvidenceProofs
end

section
/-! SUPPORT. What an evidence event and a declaration of vacancy answer (R32, R35, R53, R54). -/

namespace Sys2Proof.Machine.EvidenceProofs

/-! ### Handlings that end no suppression (R36) -/

theorem suppressedBy_congr {s t : State} (hcurrent : t.room.current = s.room.current)
    (hrecords : t.sessions.records = s.sessions.records) (hoccupancy : t.room.occupancy = s.room.occupancy) :
    t.suppressedBy = s.suppressedBy := by
  unfold State.suppressedBy
  rw [currentRecord_congr hcurrent hrecords, hoccupancy]

theorem suppressedBy_handOff (s : State) (before : Occupancy × Option Nat) : (s.handOff before).suppressedBy = s.suppressedBy := by
  have hc := handOff_changes s before
  exact suppressedBy_congr hc.room_current hc.sessions_records hc.room_occupancy

/-- A suppressed room is occupied. -/
theorem occupied_of_suppressedBy {s : State} (h : s.suppressedBy ≠ none) : s.room.occupancy = .occupied := by
  unfold State.suppressedBy at h
  split at h
  · split at h
    next hc => exact hc.2
    next => exact absurd rfl h
  · exact absurd rfl h

/-- Where the core leaves the suppression as it is, a handling has no test after it. -/
theorem handling_eq_handle {s : State} {core : State → State} (h : s.suppressedBy = none ∨ (core s).suppressedBy = s.suppressedBy) :
    s.handling core = (core s).handOff s.observed := by
  unfold State.handling
  refine if_neg fun ⟨hnone, hchanged⟩ => ?_
  rcases h with h | h
  · exact hnone h
  · exact hchanged ((suppressedBy_handOff _ _).trans h)

/-! ### What a handling reports -/

/-- From an ordered queue, a change of the room is reported (R66, R139, R180). -/
def ReportedInOrder (s t : State) : Prop :=
  QueueSorted s →
    (t.room.occupancy ≠ s.room.occupancy → QueuedIfRoom t .roomStatus) ∧
    (s.isLead = true → t.room.occupancy ≠ s.room.occupancy ∨ t.sessionId ≠ s.sessionId → QueuedIfRoom t .pairState)

theorem roomReported_of_inOrder {s t : State} (h : ReportedInOrder s t) : RoomReported s t := fun hq => h hq.inOrder

/-- A change of the room since an earlier state with the same room and role is reported. -/
theorem reported_handOff {s u : State} (hsorted : QueueSorted s → QueueSorted u) (hstate : u.pair.state = s.pair.state) :
    ReportedInOrder s (u.handOff s.observed) := by
  intro hs
  obtain ⟨hstatus, hpair⟩ := handOff_reported (hsorted hs) s.observed
  have hc := handOff_changes u s.observed
  have hobserved : (u.handOff s.observed).observed = u.observed := observed_of_changes hc
  rw [hc.room_occupancy]
  refine ⟨hstatus, fun hlead hchanged => hpair ((isLead_congr hstate).trans hlead) fun heq => ?_⟩
  rw [← hobserved] at heq
  rcases hchanged with h | h
  · exact h ((congrArg Prod.fst (hobserved.symm.trans heq)))
  · exact h (congrArg Prod.snd heq)

/-! ### An evidence event at the Room State Machine (R53) -/

theorem roomEvidence_changes (s : State) (c : Bool) : Changes [.queue, .latches, .occupancy] s (s.roomEvidence c) :=
  State.roomEvidence_changes (.refl _ _) _ rfl

theorem roomEvidence_follower {s : State} (h : s.isFollower = true) (c : Bool) : s.roomEvidence c = s := if_pos h

theorem roomEvidence_room {s : State} (h : s.isFollower = false) (c : Bool) :
    (s.roomEvidence c).room = { s.room with occupancy := occupancyAfterEvidence s.room.occupancy c } := by
  have hl : ∀ (u : State) (d : Detail), (u.latchEvent d).room = u.room := fun u d =>
    Changes.room (ps := [.queue, .latches]) (State.latchEvent_changes (.refl _ _) _ rfl)
  unfold State.roomEvidence
  rw [if_neg (by simp [h])]
  have hself : ∀ o, s.room.occupancy = o → s.room = { s.room with occupancy := o } := fun o ho => by rw [← ho]
  cases ho : s.room.occupancy with
  | vacant =>
    cases c with
    | true => exact hl _ _
    | false => exact hself _ ho
  | precondition => rfl
  | expected => rfl
  | released => rfl
  | occupied => exact hself _ ho
  | overrun => exact hself _ ho
  | adhoc => exact hself _ ho

theorem roomEvidence_current (s : State) (c : Bool) : (s.roomEvidence c).room.current = s.room.current := by
  cases h : s.isFollower with
  | true => rw [roomEvidence_follower h]
  | false => rw [roomEvidence_room h]

theorem roomEvidence_adhoc {s : State} (h : s.isFollower = false) (hv : s.room.occupancy = .vacant) :
    s.roomEvidence true = (s.setOccupancy .adhoc).latchEvent (.adhoc s.testedHeadcount) := by
  unfold State.roomEvidence
  rw [if_neg (by simp [h]), hv]
  rfl

theorem roomEvidence_quiet {s : State} {c : Bool} (h : s.isFollower = true ∨ s.room.occupancy ≠ .vacant ∨ c = false) :
    (s.roomEvidence c).link = s.link := by
  unfold State.roomEvidence
  split
  · rfl
  next hf =>
    have h := h.resolve_left hf
    split
    next hv =>
      rw [if_neg (by rcases h with h | h <;> simp_all)]
    all_goals rfl

/-- Evidence changes no suppression: a suppressed room is occupied, and stays so. -/
theorem roomEvidence_suppressed (s : State) (c : Bool) : s.suppressedBy = none ∨ s.roomEvidence c = s := by
  by_cases h : s.suppressedBy = none
  · exact .inl h
  · refine .inr ?_
    unfold State.roomEvidence
    rw [occupied_of_suppressedBy h]
    split <;> rfl

theorem roomEvidence_latches (s : State) (c : Bool) {k : EventKind} (hk : k ≠ .adhoc) :
    (s.roomEvidence c).link.latches.get k = s.link.latches.get k := by
  by_cases h : s.isFollower = true ∨ s.room.occupancy ≠ .vacant ∨ c = false
  · rw [roomEvidence_quiet h]
  · simp only [not_or, Bool.not_eq_true, Bool.not_eq_false, ne_eq, not_not] at h
    obtain ⟨hf, hv, rfl⟩ := h
    rw [roomEvidence_adhoc hf hv, latchEvent_latches_other _ _ hk]
    rfl

theorem queueSorted_roomEvidence {s : State} (hs : QueueSorted s) (c : Bool) : QueueSorted (s.roomEvidence c) := by
  by_cases h : s.isFollower = true ∨ s.room.occupancy ≠ .vacant ∨ c = false
  · exact queueSorted_congr hs (by rw [roomEvidence_quiet h]) (roomEvidence_changes s c).cfg
  · simp only [not_or, Bool.not_eq_true, Bool.not_eq_false, ne_eq, not_not] at h
    obtain ⟨hf, hv, rfl⟩ := h
    rw [roomEvidence_adhoc hf hv]
    exact queueSorted_latchEvent (queueSorted_congr (t := s.setOccupancy .adhoc) hs rfl rfl) _

/-! ### An evidence event (R32) -/

/-- An evidence event is its record and one handling; a follower's own is reported. -/
theorem evidenceEvent_eq (s : State) (k : EvidenceKind) :
    s.evidenceEvent k =
      if k ≠ .partner ∧ s.isFollower = true then
        (((s.recordEvidence k).roomEvidence (s.confirms k)).handOff s.observed).reportEvidence
      else ((s.recordEvidence k).roomEvidence (s.confirms k)).handOff s.observed := by
  have hh : (s.recordEvidence k).handling (fun x => x.roomEvidence (s.confirms k)) =
      ((s.recordEvidence k).roomEvidence (s.confirms k)).handOff s.observed := by
    refine handling_eq_handle ?_
    rcases roomEvidence_suppressed (s.recordEvidence k) (s.confirms k) with h | h
    · exact .inl h
    · exact .inr (congrArg State.suppressedBy h)
  have hf : (((s.recordEvidence k).roomEvidence (s.confirms k)).handOff s.observed).isFollower = s.isFollower :=
    isFollower_congr (((handOff_changes _ _).pair_state).trans ((roomEvidence_changes _ _).pair_state))
  unfold State.evidenceEvent
  dsimp only
  rw [hh, hf]

theorem reportEvidence_changes (s : State) : Changes [.attempt, .queue, .pairData] s s.reportEvidence :=
  State.reportEvidence_changes (.refl _ _) rfl

theorem recordEvidence_changes (s : State) (k : EvidenceKind) : Changes [.history] s (s.recordEvidence k) :=
  State.recordEvidence_changes (.refl _ _) _ rfl

/-- What an evidence event can change: the headcount is not among it. -/
theorem evidenceEvent_changes (s : State) (k : EvidenceKind) :
    Changes ([.attempt, .history, .occupancy, .switchMarker, .pairData] ++ Part.readers) s (s.evidenceEvent k) := by
  have hh : Changes ([.attempt, .history, .occupancy, .switchMarker, .pairData] ++ Part.readers) s
      (((s.recordEvidence k).roomEvidence (s.confirms k)).handOff s.observed) :=
    State.handOff_changes ((recordEvidence_changes s k).mono.then (roomEvidence_changes _ _)) _ rfl
  rw [evidenceEvent_eq]
  exact Changes.ite (hh.then (reportEvidence_changes _)) hh

theorem evidenceEvent_evidence (s : State) (k : EvidenceKind) :
    (s.evidenceEvent k).evidence = (s.recordEvidence k).evidence := by
  have hh : (((s.recordEvidence k).roomEvidence (s.confirms k)).handOff s.observed).evidence = (s.recordEvidence k).evidence :=
    (handOff_changes _ _).evidence.trans (roomEvidence_changes _ _).evidence
  rw [evidenceEvent_eq]
  split
  · rw [(reportEvidence_changes _).evidence, hh]
  · exact hh

theorem evidenceEvent_room (s : State) (k : EvidenceKind) :
    (s.evidenceEvent k).room = { ((s.recordEvidence k).roomEvidence (s.confirms k)).room with switchMarker := false } := by
  rw [evidenceEvent_eq]
  split
  · rw [(reportEvidence_changes _).room, handOff_room]
  · rw [handOff_room]

theorem reportEvidence_attempt (s : State) :
    s.reportEvidence.link.attempt =
      s.link.attempt.map fun a => if a.kind = .pairState then { a with evidenceSince := true } else a :=
  Changes.link_attempt (ps := [.queue]) (State.queueReport_changes (.refl _ _) _ rfl)

/-- A follower's report tells its PAIR_STATE in flight of the evidence, and leaves which frame that is. -/
theorem reportEvidence_inFlight (s : State) (j : ReportKind) : s.reportEvidence.inFlight j = s.inFlight j := by
  unfold State.inFlight
  rw [reportEvidence_attempt]
  cases s.link.attempt with
  | none => rfl
  | some a =>
    simp only [Option.map_some]
    split <;> rfl

theorem reportEvidence_statusCarries (s : State) (j : EventKind) : s.reportEvidence.statusCarries j = s.statusCarries j := by
  unfold State.statusCarries
  rw [reportEvidence_attempt]
  cases s.link.attempt with
  | none => rfl
  | some a =>
    simp only [Option.map_some]
    split <;> rfl

theorem queueSorted_reportEvidence {s : State} (hs : QueueSorted s) : QueueSorted s.reportEvidence :=
  queueSorted_queueReport (s := (s.modPair fun p => { p with evidenceFlag := true }).modLink fun l =>
    { l with attempt := l.attempt.map fun a => if a.kind = .pairState then { a with evidenceSince := true } else a }) hs _

/-! ### The link after an evidence event -/

/-- What an evidence event leaves of the link, but for the ADHOC and BLIND_FAULT latches. -/
structure LinkTold (s t : State) : Prop where
  flight : ∀ j, t.inFlight j = s.inFlight j
  status : ∀ j, t.statusCarries j = s.statusCarries j
  latches : ∀ j, j ≠ .adhoc → j ≠ .blindFault → t.link.latches.get j = s.link.latches.get j
  sorted : QueueSorted s → QueueSorted t

theorem linkTold_evidenceEvent (s : State) (k : EvidenceKind) : LinkTold s (s.evidenceEvent k) := by
  let u := (s.recordEvidence k).roomEvidence (s.confirms k)
  have hu : u.link.attempt = s.link.attempt := (roomEvidence_changes _ _).link_attempt.trans (recordEvidence_changes s k).link_attempt
  have hk : LinkKept u (u.handOff s.observed) := linkKept_handOff u _
  have hh : LinkTold s (u.handOff s.observed) :=
    ⟨fun j => inFlight_congr (hk.attempt.trans hu) j, fun j => statusCarries_congr (hk.attempt.trans hu) j,
      fun j hadhoc hblind => (hk.latches j hblind).trans (roomEvidence_latches _ _ hadhoc),
      fun hs => hk.sorted (queueSorted_roomEvidence (s := s.recordEvidence k) hs _)⟩
  rw [evidenceEvent_eq]
  split
  · refine ⟨fun j => (reportEvidence_inFlight _ j).trans (hh.flight j), fun j => (reportEvidence_statusCarries _ j).trans (hh.status j),
      fun j hadhoc hblind => ?_, fun hs => queueSorted_reportEvidence (hh.sorted hs)⟩
    rw [(reportEvidence_changes _).link_latches, hh.latches j hadhoc hblind]
  · exact hh

/-- The ADHOC latch of an evidence event is that of its room. -/
theorem evidenceEvent_adhocLatch (s : State) (k : EvidenceKind) :
    (s.evidenceEvent k).link.latches.get .adhoc =
      ((s.recordEvidence k).roomEvidence (s.confirms k)).link.latches.get .adhoc := by
  have hk := linkKept_handOff ((s.recordEvidence k).roomEvidence (s.confirms k)) s.observed
  rw [evidenceEvent_eq]
  split
  · rw [(reportEvidence_changes _).link_latches, hk.latches _ (by decide)]
  · exact hk.latches _ (by decide)

/-- Confirming evidence in VACANT latches ADHOC with the tested headcount (R53). -/
theorem latched_evidenceEvent {s : State} {k : EvidenceKind} (hf : s.isFollower = false) (hv : s.room.occupancy = .vacant)
    (hc : s.confirms k = true) : Latched s (s.evidenceEvent k) (.adhoc s.testedHeadcount) := by
  refine latched_widen (u := (s.recordEvidence k).setOccupancy .adhoc) (latched_latchEvent _ _) rfl rfl ?_
  have hr := roomEvidence_adhoc (s := s.recordEvidence k) hf hv
  rw [← hc] at hr
  exact (evidenceEvent_adhocLatch s k).trans (congrArg (fun u : State => u.link.latches.get .adhoc) hr)

/-- At a node that is no follower the pair's data stay. -/
theorem evidenceEvent_pair {s : State} (hf : s.isFollower = false) (k : EvidenceKind) :
    Changes ([.history, .occupancy, .switchMarker] ++ Part.readers) s (s.evidenceEvent k) := by
  rw [evidenceEvent_eq, if_neg (by simp [hf])]
  exact State.handOff_changes ((recordEvidence_changes s k).mono.then (roomEvidence_changes _ _)) _ rfl

theorem testedHeadcount_congr {s t : State} (hstate : t.pair.state = s.pair.state) (hcombined : t.pair.combined = s.pair.combined)
    (hcount : t.evidence.headcount = s.evidence.headcount) : t.testedHeadcount = s.testedHeadcount := by
  unfold State.testedHeadcount
  rw [isLead_congr hstate, hcombined, hcount]

theorem evidenceEvent_testedHeadcount {s : State} (hf : s.isFollower = false) (k : EvidenceKind) :
    (s.evidenceEvent k).testedHeadcount = s.testedHeadcount := by
  have hc := evidenceEvent_pair hf k
  exact testedHeadcount_congr hc.pair_state hc.pair_combined hc.evidence_headcount

theorem evidenceEvent_flag {s : State} (hf : s.isFollower = true) {k : EvidenceKind} (hk : k ≠ .partner) :
    (s.evidenceEvent k).pair.evidenceFlag = true := by
  rw [evidenceEvent_eq, if_pos ⟨hk, hf⟩]
  have hq : ∀ u : State, (u.queueReport .pairState).pair = u.pair := fun u =>
    Changes.pair (ps := [.queue]) (State.queueReport_changes (.refl _ _) _ rfl)
  unfold State.reportEvidence
  rw [hq]
  rfl

/-- A changed room is reported after an evidence event; a follower's room does not change. -/
theorem reported_evidenceEvent (s : State) (k : EvidenceKind) : ReportedInOrder s (s.evidenceEvent k) := by
  have hc := evidenceEvent_changes s k
  cases hf : s.isFollower with
  | true =>
    intro _
    have hlead : s.isLead = false := by
      unfold State.isFollower at hf
      unfold State.isLead
      simp_all
    have hroom := evidenceEvent_room s k
    rw [roomEvidence_follower (s := s.recordEvidence k) hf] at hroom
    rw [hroom, hlead]
    exact ⟨fun h => absurd rfl h, fun h => by cases h⟩
  | false =>
    rw [evidenceEvent_eq, if_neg (by simp [hf])]
    exact reported_handOff (fun hs => queueSorted_roomEvidence (s := s.recordEvidence k) hs _) (roomEvidence_changes _ _).pair_state

end Sys2Proof.Machine.EvidenceProofs
end

section
/-! SUPPORT. Evidence events as one step takes them: pulses, breaks and the door-pair window (R26 to R33, R53). -/

namespace Sys2Proof.Machine.EvidenceProofs

/-! ### An evidence event within a step -/

/-- What a step may do before the evidence event it makes. -/
structure BeforeEvidence (s u : State) : Prop where
  changes : Changes [.now, .pins, .door, .damper, .queue, .headcount, .airRecord, .grant, .pairData, .latches] s u
  adhoc : u.link.latches.get .adhoc = s.link.latches.get .adhoc
  sorted : QueueSorted s → QueueSorted u

theorem beforeEvidence_of_kept {s u : State}
    (h : Changes [.now, .pins, .door, .damper, .queue, .headcount, .airRecord, .grant, .pairData, .latches] s u)
    (hk : LinkKept s u) : BeforeEvidence s u := ⟨h, hk.latches _ (by decide), hk.sorted⟩

theorem beforeEvidence_beside {s u : State} (h : Changes [.now, .pins, .door, .headcount, .pairData] s u) : BeforeEvidence s u :=
  beforeEvidence_of_kept h.mono (linkKept_beside h.mono)

theorem confirms_eq (s : State) (k : EvidenceKind) :
    s.confirms k = (decide (k = .entry) || s.evidence.confirmMark.any fun m => s.now - m ≤ 120000) := by
  unfold State.confirms
  rw [show mins 2 = 120000 from rfl]

/-- An evidence event within a step is taken with its marking. -/
theorem evidenceActed_of_before {s u : State} (h : BeforeEvidence s u) {k : EvidenceKind} (hk : k ≠ .partner) :
    EvidenceActed s (u.evidenceEvent k) u.now (k = .entry) := by
  have hc := h.changes
  have hfollower : u.isFollower = s.isFollower := isFollower_congr hc.pair_state
  have hroom : u.room = s.room := hc.room
  have hconfirms : u.confirms k = (decide (k = .entry) || s.evidence.confirmMark.any fun m => u.now - m ≤ 120000) := by
    rw [confirms_eq, hc.evidence_confirmMark]
  have hevidence := evidenceEvent_evidence u k
  have hmark : (u.evidenceEvent k).evidence.confirmMark = if k = .entry then s.evidence.confirmMark else some u.now := by
    rw [hevidence, ← hc.evidence_confirmMark]
    rfl
  have hfree : u.isFollower = false →
      (u.evidenceEvent k).room.occupancy = occupancyAfterEvidence u.room.occupancy (u.confirms k) := fun hf => by
    rw [evidenceEvent_room, roomEvidence_room (s := u.recordEvidence k) hf]
    rfl
  have hbound : u.isFollower = true → (u.evidenceEvent k).room.occupancy = u.room.occupancy := fun hf => by
    rw [evidenceEvent_room, roomEvidence_follower (s := u.recordEvidence k) hf]
    rfl
  have hcurrent : (u.evidenceEvent k).room.current = u.room.current := by
    rw [evidenceEvent_room]
    exact roomEvidence_current _ _
  have hreported : RoomReported s (u.evidenceEvent k) := by
    intro hq
    have hr := reported_evidenceEvent u k (h.sorted hq.inOrder)
    rw [hroom, isLead_congr hc.pair_state,
      sessionId_congr hc.pair_state (congrArg Room.current hroom) (congrArg Room.mirroredId hroom)] at hr
    exact hr
  unfold EvidenceActed EvidenceTaken
  dsimp only
  refine ⟨⟨by rw [hevidence]; rfl, by rw [hevidence]; rfl, by rw [hevidence]; rfl, fun hf => ?_, fun hf => ?_, hreported⟩, ?_,
    by rw [hcurrent, hroom], fun hf hv hconf => ?_⟩
  · rw [hfree (hfollower.trans hf), hroom, hconfirms]
  · exact ⟨by rw [hbound (hfollower.trans hf), hroom], evidenceEvent_flag (hfollower.trans hf) hk⟩
  · rw [hmark]
    simp
  · rw [evidenceEvent_testedHeadcount (hfollower.trans hf)]
    exact latched_widen (latched_evidenceEvent (hfollower.trans hf) (by rw [hroom, hv]) (hconfirms.trans hconf)) h.adhoc
      hc.link_attempt rfl

theorem queuedIfRoom_congr {s t : State} (hqueue : t.link.queue = s.link.queue) (hattempt : t.link.attempt = s.link.attempt)
    (hcfg : t.cfg = s.cfg) {k : ReportKind} (h : QueuedIfRoom s k) : QueuedIfRoom t k := by
  unfold QueuedIfRoom State.isQueued at h ⊢
  rw [hqueue, hcfg]
  simpa only [inFlight_congr hattempt] using h

/-- What is queued stays so through an evaluation, which may queue DEMAND. -/
theorem queuedIfRoom_evaluate {s : State} (hs : QueueSorted s) {k : ReportKind} (h : QueuedIfRoom s k) :
    QueuedIfRoom s.evaluate k := by
  have hr : Changes [.airRecord, .damper, .grant] s (s.holdRecord s.ownRecord).recompute :=
    State.recompute_changes (State.holdRecord_changes (.refl _ _) _ rfl) rfl
  have hkept : QueuedIfRoom (s.holdRecord s.ownRecord).recompute k := queuedIfRoom_congr hr.link_queue hr.link_attempt hr.cfg h
  unfold State.evaluate
  dsimp only
  repeat' split
  · exact h
  · exact queuedIfRoom_queueReport (queueSorted_congr hs hr.link_queue hr.cfg) (.inr hkept)
  · exact hkept

/-- An evaluation after an evidence event leaves it as taken. -/
theorem evidenceActed_evaluate {s t : State} {at_ : Nat} {entry : Bool} (hs : QueueSorted s → QueueSorted t)
    (h : EvidenceActed s t at_ entry) : EvidenceActed s t.evaluate at_ entry := by
  have hc := evaluate_changes t
  have hroom : t.evaluate.room = t.room := hc.room
  have hpair : t.evaluate.pair = t.pair := hc.pair
  have hevidence : t.evaluate.evidence = t.evidence := hc.evidence
  obtain ⟨⟨hlast, hhold, htriple, hfree, hbound, hreported⟩, hmark, hcurrent, hadhoc⟩ := h
  unfold EvidenceActed EvidenceTaken
  dsimp only
  rw [hroom, hpair, hevidence]
  refine ⟨⟨hlast, hhold, htriple, hfree, hbound, fun hq => ?_⟩, hmark, hcurrent, fun hf hv hconf => ?_⟩
  · obtain ⟨hstatus, hpairState⟩ := hreported hq
    have hsorted := hs hq.inOrder
    rw [hroom, sessionId_congr hc.pair_state hc.room_current hc.room_mirroredId]
    exact ⟨fun h => queuedIfRoom_evaluate hsorted (hstatus h), fun hl h => queuedIfRoom_evaluate hsorted (hpairState hl h)⟩
  · rw [testedHeadcount_congr hc.pair_state hc.pair_combined hc.evidence_headcount]
    exact latched_widen (hadhoc hf hv hconf) rfl rfl (by rw [hc.link_latches])

/-- An evidence event counts nobody and leaves the door beams. -/
theorem evidenceEvent_counts (s : State) (k : EvidenceKind) :
    (s.evidenceEvent k).evidence.window = s.evidence.window ∧ (s.evidenceEvent k).evidence.stuckDue = s.evidence.stuckDue ∧
      (s.evidenceEvent k).evidence.stuckMark = s.evidence.stuckMark ∧
      (s.evidenceEvent k).evidence.headcount = s.evidence.headcount := by
  have hc := evidenceEvent_changes s k
  exact ⟨hc.evidence_window, hc.evidence_stuckDue, hc.evidence_stuckMark, hc.evidence_headcount⟩

/-! ### The headcount (R29) -/

theorem setHeadcount_changes (s : State) (n : Nat) :
    Changes [.damper, .queue, .headcount, .airRecord, .grant, .pairData] s (s.setHeadcount n) :=
  State.setHeadcount_changes (.refl _ _) n rfl

theorem linkKept_setHeadcount (s : State) (n : Nat) : LinkKept s (s.setHeadcount n) := by
  let u := s.modEvidence fun e => { e with headcount := n }
  have hu : LinkKept s u := ⟨rfl, fun _ _ => rfl, id⟩
  have hform : LinkKept s (if u.isLead then u.formCombined else u) := linkKept_ite ⟨rfl, fun _ _ => rfl, id⟩ hu
  have heval := linkKept_trans hform (linkKept_evaluate _)
  exact linkKept_ite (linkKept_refl s) (linkKept_ite (linkKept_trans heval (linkKept_queueReport _ _)) heval)

theorem setHeadcount_headcount (s : State) (n : Nat) : (s.setHeadcount n).evidence.headcount = n := by
  unfold State.setHeadcount
  split
  next h => exact h.symm
  next =>
    have hc : Changes [.damper, .queue, .airRecord, .grant, .pairData] (s.modEvidence fun e => { e with headcount := n })
        (s.modEvidence fun e => { e with headcount := n }).headcountChanged := State.headcountChanged_changes (.refl _ _) rfl
    rw [hc.evidence_headcount]
    rfl

theorem setHeadcount_window (s : State) (n : Nat) : (s.setHeadcount n).evidence.window = s.evidence.window :=
  (setHeadcount_changes s n).evidence_window

/-! ### The ways of a break (R27, R30) -/

theorem takeBreak_stuck {s : State} {b : Beam} (hfault : s.doorFault = true) (hstuck : s.evidence.stuckMark.get b = true) :
    s.takeBreak b = s := by
  unfold State.takeBreak
  rw [if_pos hfault, if_pos hstuck]

theorem takeBreak_beside {s : State} {b : Beam} (hfault : s.doorFault = true) (hclear : s.evidence.stuckMark.get b = false) :
    s.takeBreak b = s.evidenceEvent .unpaired := by
  unfold State.takeBreak
  rw [if_pos hfault, if_neg (by simp [hclear])]

theorem takeBreak_opens {s : State} {b : Beam} (hfault : s.doorFault = false) (hwindow : s.evidence.window = none) :
    s.takeBreak b = s.setWindow (some ⟨b, s.now⟩) := by
  unfold State.takeBreak
  rw [if_neg (by simp [hfault]), hwindow]

theorem takeBreak_restarts {s : State} {b : Beam} {w : Window} (hfault : s.doorFault = false) (hwindow : s.evidence.window = some w)
    (hsame : w.beam = b) : s.takeBreak b = (s.setWindow (some ⟨b, s.now⟩)).evidenceEvent .unpaired := by
  unfold State.takeBreak
  rw [if_neg (by simp [hfault]), hwindow]
  exact if_pos hsame

theorem takeBreak_pairs {s : State} {b : Beam} {w : Window} (hfault : s.doorFault = false) (hwindow : s.evidence.window = some w)
    (hother : w.beam ≠ b) : s.takeBreak b = s.pairedBreak b := by
  unfold State.takeBreak
  rw [if_neg (by simp [hfault]), hwindow]
  exact if_neg hother

/-- The headcount and the evidence of a pair of breaks ending at a beam (R27, R29). -/
def pairCount (n : Nat) : Beam → Nat
  | .inner => min 511 (n + 1)
  | .outer => n - 1

def pairKind : Beam → EvidenceKind
  | .inner => .entry
  | .outer => .exit

theorem pairedBreak_eq (s : State) (b : Beam) :
    s.pairedBreak b =
      ((s.setWindow none).setHeadcount (pairCount s.evidence.headcount b)).evidenceEvent (pairKind b) := by
  cases b <;> rfl

theorem pairKind_entry (b : Beam) : decide (pairKind b = .entry) = decide (b = .inner) := by cases b <;> rfl

theorem pairKind_own (b : Beam) : pairKind b ≠ .partner := by cases b <;> simp [pairKind]

/-- A pair of breaks closes the window, counts, and is evidence. -/
theorem pairedBreak_acts {s u : State} (h : Changes [.now, .pins, .door] s u) (b : Beam) :
    (u.pairedBreak b).evidence.window = none ∧ EvidenceActed s (u.pairedBreak b) u.now (b = .inner) ∧
      (u.pairedBreak b).evidence.headcount = pairCount s.evidence.headcount b := by
  let v := (u.setWindow none).setHeadcount (pairCount u.evidence.headcount b)
  have hw : Changes [.now, .pins, .door] s (u.setWindow none) := State.setWindow_changes h none rfl
  have hn := setHeadcount_changes (u.setWindow none) (pairCount u.evidence.headcount b)
  have hbefore : BeforeEvidence s v :=
    beforeEvidence_of_kept (hw.mono.then hn) (linkKept_trans (linkKept_beside hw.mono) (linkKept_setHeadcount _ _))
  obtain ⟨hwindow, -, -, hcount⟩ := evidenceEvent_counts v (pairKind b)
  have hacted := evidenceActed_of_before hbefore (pairKind_own b)
  rw [hn.now, pairKind_entry] at hacted
  rw [pairedBreak_eq]
  exact ⟨hwindow.trans (setHeadcount_window _ _), hacted,
    hcount.trans ((setHeadcount_headcount _ _).trans (by rw [h.evidence_headcount]))⟩

/-! ### Breaks and releases (R26 to R30) -/

/-- A break starts its stuck timer and is taken by what stands. -/
theorem beamBreak_taken {s : State} {b : Beam} (hrun : s.isRunning = true) (hclear : s.pins.broken.get b = false) :
    exec (.beamBreak b) s = .next (((s.setBeam b true).setStuckDue b (some (s.now + secs 60))).takeBreak b) := by
  show execBeamBreak b s = _
  unfold execBeamBreak
  rw [if_neg (by simp [hclear]), whileRunning_of_running (s := s.setBeam b true) hrun]
  rfl

theorem beamRelease_taken {s : State} {b : Beam} (hrun : s.isRunning = true) (hbroken : s.pins.broken.get b = true) :
    exec (.beamRelease b) s = .next ((s.setBeam b false).releaseBeam b) := by
  show execBeamRelease b s = _
  unfold execBeamRelease
  rw [if_pos hbroken, whileRunning_of_running (s := s.setBeam b false) hrun]

/-- An expiry of a timer that runs acts at the later of the present and its due time. -/
theorem onExpiry_running {s : State} (hrun : s.isRunning = true) {timer : State → Option Nat} {due : Nat} (h : timer s = some due)
    (act : State → State) : (s.whileRunning fun x => x.onExpiry (timer x) act) = act (s.advanceTo due) := by
  rw [whileRunning_of_running hrun, h]
  rfl

theorem takeBreak_pins (s : State) (b : Beam) : (s.takeBreak b).pins = s.pins :=
  Changes.pins (ps := [.attempt, .door] ++ Part.handling) (State.takeBreak_changes (.refl _ _) b rfl)

theorem takeBreak_stuckDue (s : State) (b : Beam) : (s.takeBreak b).evidence.stuckDue = s.evidence.stuckDue := by
  unfold State.takeBreak
  repeat' split
  · rfl
  · exact (evidenceEvent_counts s _).2.1
  · rfl
  · exact (evidenceEvent_counts _ _).2.1
  · rw [pairedBreak_eq]
    exact (evidenceEvent_counts _ _).2.1.trans (setHeadcount_changes _ _).evidence_stuckDue

theorem beamBreak_acts {s : State} {b : Beam} (hrun : s.isRunning = true) (hclear : s.pins.broken.get b = false) :
    ∃ t, exec (.beamBreak b) s = .next t ∧ t.pins.broken.get b = true ∧
      t.evidence.stuckDue.get b = some (s.now + 60000) ∧
      (s.doorFault = false → s.evidence.window = none →
        t.evidence.window = some ⟨b, s.now⟩ ∧ Changes [.pins, .door] s t) ∧
      (s.doorFault = false → (∃ w, s.evidence.window = some w ∧ w.beam = b) →
        t.evidence.window = some ⟨b, s.now⟩ ∧ t.evidence.headcount = s.evidence.headcount ∧ EvidenceActed s t s.now false) ∧
      (s.doorFault = false → (∃ w, s.evidence.window = some w ∧ w.beam ≠ b) →
        t.evidence.window = none ∧ EvidenceActed s t s.now (b = .inner) ∧
        t.evidence.headcount = pairCount s.evidence.headcount b) ∧
      (s.doorFault = true → t.evidence.window = s.evidence.window ∧ t.evidence.headcount = s.evidence.headcount ∧
        (s.evidence.stuckMark.get b = false → EvidenceActed s t s.now false) ∧
        (s.evidence.stuckMark.get b = true → Changes [.pins, .door] s t)) := by
  let u := (s.setBeam b true).setStuckDue b (some (s.now + secs 60))
  have hu : Changes [.now, .pins, .door] s u :=
    State.setStuckDue_changes (State.setBeam_changes (.refl _ _) b true rfl) b _ rfl
  have hdoor : Changes [.pins, .door] s u :=
    State.setStuckDue_changes (State.setBeam_changes (.refl _ _) b true rfl) b _ rfl
  have hwindow : u.evidence.window = s.evidence.window := rfl
  refine ⟨u.takeBreak b, beamBreak_taken hrun hclear, ?_, ?_, fun hf hw => ?_, fun hf hw => ?_, fun hf hw => ?_, fun hf => ?_⟩
  · rw [takeBreak_pins]
    exact PerBeam.get_set_same _ _ _
  · rw [takeBreak_stuckDue, show 60000 = secs 60 from rfl]
    exact PerBeam.get_set_same _ _ _
  · rw [takeBreak_opens (s := u) hf hw]
    exact ⟨rfl, State.setWindow_changes hdoor _ rfl⟩
  · obtain ⟨w, hw, hsame⟩ := hw
    rw [takeBreak_restarts (s := u) hf hw hsame]
    obtain ⟨hopen, -, -, hcount⟩ := evidenceEvent_counts (u.setWindow (some ⟨b, u.now⟩)) .unpaired
    exact ⟨hopen, hcount, evidenceActed_of_before (u := u.setWindow (some ⟨b, u.now⟩))
      (beforeEvidence_beside (State.setWindow_changes hu.mono _ rfl)) (by simp)⟩
  · obtain ⟨w, hw, hother⟩ := hw
    rw [takeBreak_pairs (s := u) hf hw hother]
    exact pairedBreak_acts hu b
  · cases hstuck : s.evidence.stuckMark.get b with
    | true =>
      rw [takeBreak_stuck (s := u) hf hstuck]
      exact ⟨rfl, rfl, fun h => by simp at h, fun _ => hdoor⟩
    | false =>
      rw [takeBreak_beside (s := u) hf hstuck]
      obtain ⟨hopen, -, -, hcount⟩ := evidenceEvent_counts u .unpaired
      exact ⟨hopen, hcount, fun _ => evidenceActed_of_before (u := u) (beforeEvidence_beside hu.mono) (by simp), fun h => by simp at h⟩

/-- A release stops the timer, clears the mark and hands an end of the fault to the air share. -/
theorem releaseBeam_acts (s : State) (b : Beam) :
    (s.releaseBeam b).evidence.stuckDue = s.evidence.stuckDue.set b none ∧
      (s.releaseBeam b).evidence.stuckMark = s.evidence.stuckMark.set b false ∧
      (s.releaseBeam b).evidence.window = s.evidence.window ∧
      (s.doorFault = true → (s.releaseBeam b).doorFault = false → (s.releaseBeam b).heldRecord = (s.releaseBeam b).ownRecord) := by
  let u := (s.setStuckDue b none).setStuckMark b false
  by_cases hends : s.doorFault = true ∧ ¬ u.doorFault = true
  · have hr : s.releaseBeam b = u.evaluate := if_pos hends
    have hc := evaluate_changes u
    rw [hr]
    exact ⟨hc.evidence_stuckDue, hc.evidence_stuckMark, hc.evidence_window, fun _ _ => evaluate_heldRecord u⟩
  · have hr : s.releaseBeam b = u := if_neg hends
    rw [hr]
    exact ⟨rfl, rfl, rfl, fun hf hu => absurd ⟨hf, by simp [hu]⟩ hends⟩

/-- With no fault a release ends none. -/
theorem releaseBeam_quiet {s u : State} (h : Changes [.pins, .door] s u) {b : Beam} (hf : u.doorFault = false) :
    Changes [.pins, .door] s (u.releaseBeam b) := by
  have hr : u.releaseBeam b = (u.setStuckDue b none).setStuckMark b false := if_neg (by simp [hf])
  rw [hr]
  exact State.setStuckMark_changes (State.setStuckDue_changes h _ _ rfl) _ _ rfl

/-! ### The stuck timer and the window (R28, R30) -/

theorem declareDoorFault_keeps (s : State) :
    s.declareDoorFault.now = s.now ∧ s.declareDoorFault.evidence.stuckDue = s.evidence.stuckDue ∧
      s.declareDoorFault.evidence.stuckMark = s.evidence.stuckMark := by
  have hl : Changes [.queue, .latches] s (s.latchEvent (.sensorFault .door)) := State.latchEvent_changes (.refl _ _) _ rfl
  have hc : Changes ([.attempt, .door] ++ Part.handling) s s.declareDoorFault := State.declareDoorFault_changes (.refl _ _) rfl
  refine ⟨hc.now, ?_⟩
  unfold State.declareDoorFault
  dsimp only
  split
  · have he := evidenceEvent_changes ((s.latchEvent (.sensorFault .door)).setWindow none) .unpaired
    rw [(evaluate_changes _).evidence_stuckDue, (evaluate_changes _).evidence_stuckMark, he.evidence_stuckDue, he.evidence_stuckMark]
    exact ⟨hl.evidence_stuckDue, hl.evidence_stuckMark⟩
  · rw [(evaluate_changes _).evidence_stuckDue, (evaluate_changes _).evidence_stuckMark]
    exact ⟨hl.evidence_stuckDue, hl.evidence_stuckMark⟩

/-- The DOOR fault comes to stand: it is latched, an open window is an unpaired break, and the own record is evaluated. -/
theorem declareDoorFault_acts {s u : State} (h : Changes [.now, .door] s u) (hwindow : u.evidence.window = s.evidence.window) :
    u.declareDoorFault.evidence.window = none ∧ Latched s u.declareDoorFault (.sensorFault .door) ∧
      u.declareDoorFault.heldRecord = u.declareDoorFault.ownRecord ∧
      u.declareDoorFault.evidence.headcount = s.evidence.headcount ∧
      (s.evidence.window.isSome = true → EvidenceActed s u.declareDoorFault u.now false) ∧
      (s.evidence.window = none → Changes [.now, .door, .queue, .latches, .airRecord, .grant, .damper] s u.declareDoorFault) := by
  let v := u.latchEvent (.sensorFault .door)
  have hv : Changes [.queue, .latches] u v := State.latchEvent_changes (.refl _ _) _ rfl
  have hlatched : Latched s v (.sensorFault .door) :=
    latched_widen (latched_latchEvent u _) (by rw [h.link_latches]) h.link_attempt rfl
  cases hw : s.evidence.window with
  | none =>
    have hnone : v.evidence.window = none := by rw [hv.evidence_window, hwindow, hw]
    have heq : u.declareDoorFault = v.evaluate := by
      show State.evaluate (if v.evidence.window.isSome then _ else v) = _
      rw [hnone]
      rfl
    have hc := evaluate_changes v
    rw [heq]
    refine ⟨hc.evidence_window.trans hnone, latched_widen hlatched rfl rfl (by rw [hc.link_latches]), evaluate_heldRecord v, ?_,
      fun hopen => by simp at hopen, fun _ => (h.mono.then hv).then hc⟩
    rw [hc.evidence_headcount, hv.evidence_headcount, h.evidence_headcount]
  | some w =>
    let x := v.setWindow none
    have heq : u.declareDoorFault = (x.evidenceEvent .unpaired).evaluate := by
      show State.evaluate (if v.evidence.window.isSome then _ else v) = _
      rw [hv.evidence_window, hwindow, hw]
      rfl
    have hx : BeforeEvidence s x := by
      refine ⟨State.setWindow_changes (h.mono.then hv) _ rfl, ?_, fun hs => ?_⟩
      · show v.link.latches.get .adhoc = _
        rw [latchEvent_latches_other _ _ (by decide), h.link_latches]
      · exact queueSorted_latchEvent (queueSorted_congr hs h.link_queue h.cfg) _
    have hnow : x.now = u.now := hv.now
    have hacted := evidenceActed_of_before hx (k := .unpaired) (by simp)
    have htold := linkTold_evidenceEvent x .unpaired
    have hc := evaluate_changes (x.evidenceEvent .unpaired)
    obtain ⟨hopen, -, -, hcount⟩ := evidenceEvent_counts x .unpaired
    rw [hnow] at hacted
    rw [heq]
    refine ⟨hc.evidence_window.trans hopen, latched_widen hlatched rfl rfl ?_, evaluate_heldRecord _, ?_,
      fun _ => evidenceActed_evaluate (fun hs => htold.sorted (hx.sorted hs)) hacted, fun hnone => by simp at hnone⟩
    · rw [hc.link_latches]
      exact htold.latches _ (by decide) (by decide)
    · rw [hc.evidence_headcount, hcount]
      exact hv.evidence_headcount.trans h.evidence_headcount

end Sys2Proof.Machine.EvidenceProofs
end

section
/-! SUPPORT. The statement about pulses, breaks, releases, the stuck timers and the window (R26 to R33, R53). -/

namespace Sys2Proof.Machine.EvidenceProofs

/-- A PIR pulse is a MOTION evidence event. -/
theorem pirPulse_acts {s : State} (hrun : s.isRunning = true) :
    let t := s.evidenceEvent .motion
    exec .pirPulse s = .next t ∧ EvidenceActed s t s.now false ∧ t.evidence.headcount = s.evidence.headcount ∧
      (s.isFollower = false → s.room.occupancy = .vacant →
        (s.evidence.confirmMark.any fun m => s.now - m ≤ 120000) = true → Latched s t (.adhoc s.testedHeadcount)) := by
  obtain ⟨-, -, -, hcount⟩ := evidenceEvent_counts s .motion
  exact ⟨congrArg _ (whileRunning_of_running hrun _), evidenceActed_of_before (beforeEvidence_beside (.refl _ _)) (by simp), hcount,
    fun hf hv hconf => latched_evidenceEvent hf hv ((confirms_eq s .motion).trans hconf)⟩

/-- The window's expiry is an unpaired break dated at the expiry (R28). -/
theorem windowExpiry_acts {s : State} {w : Window} (hrun : s.isRunning = true) (hw : s.evidence.window = some w) :
    ∃ t, exec .windowExpiry s = .next t ∧ t.now = max s.now (w.openedAt + 1500) ∧ t.evidence.window = none ∧
      EvidenceActed s t t.now false ∧ t.evidence.headcount = s.evidence.headcount := by
  let u := (s.advanceTo (w.openedAt + 1500)).setWindow none
  have hdue : s.evidence.window.map (·.openedAt + 1500) = some (w.openedAt + 1500) := by rw [hw]; rfl
  have hbefore : BeforeEvidence s u :=
    beforeEvidence_beside (State.setWindow_changes (State.advanceTo_changes (.refl _ _) _ rfl) _ rfl)
  obtain ⟨hopen, -, -, hcount⟩ := evidenceEvent_counts u .unpaired
  have hnow : (u.evidenceEvent .unpaired).now = u.now := (evidenceEvent_changes u _).now
  have hacted := evidenceActed_of_before hbefore (k := .unpaired) (by simp)
  rw [← hnow] at hacted
  exact ⟨u.evidenceEvent .unpaired,
    congrArg _ (onExpiry_running hrun (timer := fun x => x.evidence.window.map (·.openedAt + 1500)) hdue _),
    hnow, hopen, hacted, hcount⟩

/-- The stuck timer marks the beam, and brings the DOOR fault where none stood (R30). -/
theorem stuckTimerExpiry_acts {s : State} {b : Beam} {due : Nat} (hrun : s.isRunning = true)
    (hdue : s.evidence.stuckDue.get b = some due) :
    ∃ t, exec (.stuckTimerExpiry b) s = .next t ∧ t.now = max s.now due ∧ t.evidence.stuckDue.get b = none ∧
      t.evidence.stuckMark.get b = true ∧
      (s.doorFault = true → Changes [.now, .door] s t) ∧
      (s.doorFault = false → t.evidence.window = none ∧ Latched s t (.sensorFault .door) ∧ t.heldRecord = t.ownRecord ∧
        t.evidence.headcount = s.evidence.headcount ∧
        (s.evidence.window.isSome = true → EvidenceActed s t t.now false) ∧
        (s.evidence.window = none → Changes [.now, .door, .queue, .latches, .airRecord, .grant, .damper] s t)) := by
  let a := s.advanceTo due
  let u := (a.setStuckDue b none).setStuckMark b true
  have hu : Changes [.now, .door] s u :=
    State.setStuckMark_changes (State.setStuckDue_changes (State.advanceTo_changes (.refl _ _) _ rfl) _ _ rfl) _ _ rfl
  have hstuckDue : u.evidence.stuckDue.get b = none := PerBeam.get_set_same _ _ _
  have hstuckMark : u.evidence.stuckMark.get b = true := PerBeam.get_set_same _ _ _
  refine ⟨a.markStuck b, congrArg _ (onExpiry_running hrun (timer := fun x => x.evidence.stuckDue.get b) hdue _), ?_⟩
  cases hf : s.doorFault with
  | true =>
    have heq : a.markStuck b = u := if_pos hf
    rw [heq]
    exact ⟨rfl, hstuckDue, hstuckMark, fun _ => hu, fun h => by simp at h⟩
  | false =>
    have heq : a.markStuck b = u.declareDoorFault := if_neg (by rw [show a.doorFault = s.doorFault from rfl, hf]; simp)
    obtain ⟨hnow, hkeptDue, hkeptMark⟩ := declareDoorFault_keeps u
    rw [heq, hnow, hkeptDue, hkeptMark]
    exact ⟨rfl, hstuckDue, hstuckMark, fun h => by simp at h, fun _ => declareDoorFault_acts hu rfl⟩

/-- Settles O33: each command is what stands before its evidence event, and that event as a step takes it. -/
theorem motionAndDoorBeamsAreEvidence : Obligations.MotionAndDoorBeamsAreEvidence := by
  refine ⟨fun s hrun => ⟨_, pirPulse_acts hrun⟩, fun s b hrun hclear => beamBreak_acts hrun hclear, fun s b hrun hbroken => ?_,
    fun s b due hrun hdue => stuckTimerExpiry_acts hrun hdue, fun s w hrun hw => windowExpiry_acts hrun hw⟩
  let u := s.setBeam b false
  obtain ⟨hstuckDue, hstuckMark, hwindow, hheld⟩ := releaseBeam_acts u b
  have hpins : (u.releaseBeam b).pins = u.pins :=
    Changes.pins (ps := [.damper, .queue, .door, .airRecord, .grant]) (State.releaseBeam_changes (.refl _ _) b rfl)
  refine ⟨u.releaseBeam b, beamRelease_taken hrun hbroken, ?_, ?_, ?_, hwindow, fun hf => ?_, hheld⟩
  · rw [hpins]
    exact PerBeam.get_set_same _ _ _
  · rw [hstuckDue]
    exact PerBeam.get_set_same _ _ _
  · rw [hstuckMark]
    exact PerBeam.get_set_same _ _ _
  · exact releaseBeam_quiet (State.setBeam_changes (.refl _ _) b false rfl) hf

end Sys2Proof.Machine.EvidenceProofs
end

section
/-! SUPPORT. Declarations of vacancy (R34 to R37, R54) and what the Override Table takes of a handling (R61, R153). -/

namespace Sys2Proof.Machine.EvidenceProofs

/-! ### The Override Table after a handling -/

theorem observed_ne_iff (s t : State) :
    t.observed ≠ s.observed ↔ t.room.occupancy ≠ s.room.occupancy ∨ t.sessionId ≠ s.sessionId := by
  rw [State.observed, State.observed, ne_eq, Prod.mk.injEq, not_and_or]

/-- The hand-off marks and drops records by the change since an earlier state with the same records. -/
theorem overridesTookIt_handOff {s u : State} (hrecords : u.overrides.records = s.overrides.records) :
    OverridesTookIt s (u.handOff s.observed) u.room.switchMarker := by
  intro q
  have hc := handOff_changes u s.observed
  have hobserved : (u.handOff s.observed).observed = u.observed := observed_of_changes hc
  have hchanged := observed_ne_iff s (u.handOff s.observed)
  rw [hobserved, hc.room_occupancy] at hchanged
  dsimp only
  rw [handOff_get, handSwitch_get, hrecords, hc.now]
  simp only [hchanged, hc.room_occupancy]

/-! ### Vacancy at the Room State Machine (R54) -/

theorem roomVacancy_changes (s : State) : Changes [.queue, .latches, .occupancy] s s.roomVacancy :=
  State.roomVacancy_changes (.refl _ _) rfl

theorem roomVacancy_follower {s : State} (h : s.isFollower = true) : s.roomVacancy = s := if_pos h

/-- A begun session that is left is released with its event. -/
theorem roomVacancy_release {s : State} (h : s.isFollower = false) (ho : s.room.occupancy = .occupied) (hb : s.currentBegun = true) :
    s.roomVacancy = (s.setOccupancy .released).latchEvent (.release (s.room.current.getD 0) .earlyLeave) := by
  unfold State.roomVacancy
  rw [if_neg (by simp [h]), ho]
  exact if_pos hb

/-- In every other case the link stays. -/
theorem roomVacancy_link {s : State} (h : ¬ (s.isFollower = false ∧ s.room.occupancy = .occupied ∧ s.currentBegun = true)) :
    s.roomVacancy.link = s.link := by
  unfold State.roomVacancy
  split
  · rfl
  next hf =>
    split
    next ho =>
      rw [if_neg fun hb => h ⟨by simpa using hf, ho, hb⟩]
      rfl
    all_goals rfl

theorem latchEvent_room (s : State) (d : Detail) : (s.latchEvent d).room = s.room :=
  Changes.room (ps := [.queue, .latches]) (State.latchEvent_changes (.refl _ _) _ rfl)

theorem roomVacancy_occupancy {s : State} (h : s.isFollower = false) :
    s.roomVacancy.room.occupancy = occupancyAfterVacancy s.room.occupancy s.currentBegun := by
  unfold State.roomVacancy occupancyAfterVacancy
  rw [if_neg (by simp [h])]
  cases ho : s.room.occupancy with
  | occupied =>
    cases s.currentBegun with
    | true => exact congrArg Room.occupancy (latchEvent_room _ _)
    | false => rfl
  | overrun => rfl
  | adhoc => rfl
  | vacant => exact ho
  | precondition => exact ho
  | expected => exact ho
  | released => exact ho

theorem roomVacancy_current (s : State) : s.roomVacancy.room.current = s.room.current := by
  unfold State.roomVacancy
  repeat' split
  · rfl
  · rw [latchEvent_room]
    rfl
  all_goals rfl

theorem queueSorted_roomVacancy {s : State} (hs : QueueSorted s) : QueueSorted s.roomVacancy := by
  by_cases h : s.isFollower = false ∧ s.room.occupancy = .occupied ∧ s.currentBegun = true
  · obtain ⟨hf, ho, hb⟩ := h
    rw [roomVacancy_release hf ho hb]
    exact queueSorted_latchEvent (queueSorted_congr (t := s.setOccupancy .released) hs rfl rfl) _
  · exact queueSorted_congr hs (by rw [roomVacancy_link h]) (roomVacancy_changes s).cfg

/-! ### A declaration of vacancy (R35) -/

/-- What a declaration of vacancy empties before its handling. -/
theorem emptied_changes (s : State) :
    Changes [.damper, .queue, .headcount, .airRecord, .grant, .pairData, .history] s (s.setHeadcount 0).clearHistory :=
  State.clearHistory_changes (setHeadcount_changes s 0).mono rfl

/-- A declaration of vacancy empties the count and the history, and is one handling of the room. -/
theorem declareVacancy_eq (s : State) :
    s.declareVacancy = ((s.setHeadcount 0).clearHistory).roomVacancy.handOff s.observed := by
  show ((s.setHeadcount 0).clearHistory).roomVacancy.handOff _ = _
  rw [observed_of_changes (emptied_changes s)]

theorem linkKept_emptied (s : State) : LinkKept s (s.setHeadcount 0).clearHistory :=
  linkKept_trans (linkKept_setHeadcount s 0) (linkKept_beside (State.clearHistory_changes (.refl _ _) rfl))

/-- A declaration of vacancy leaves no count and no history. -/
theorem declareVacancy_evidence (s : State) :
    s.declareVacancy.evidence.headcount = 0 ∧ s.declareVacancy.evidence.lastEvidence = none ∧
      s.declareVacancy.evidence.confirmMark = none := by
  have hevidence : s.declareVacancy.evidence = ((s.setHeadcount 0).clearHistory).evidence := by
    rw [declareVacancy_eq, (handOff_changes _ _).evidence, (roomVacancy_changes _).evidence]
  rw [hevidence]
  exact ⟨setHeadcount_headcount s 0, rfl, rfl⟩

theorem declareVacancy_room (s : State) :
    s.declareVacancy.room = { ((s.setHeadcount 0).clearHistory).roomVacancy.room with switchMarker := false } := by
  rw [declareVacancy_eq, handOff_room]

/-- A declaration within a step that has moved the clock and the marks of the history. -/
theorem vacancyDeclared_of_changes {s u : State} (h : Changes [.now, .history] s u) : VacancyDeclared s u.declareVacancy := by
  let v := (u.setHeadcount 0).clearHistory
  have hv : Changes [.now, .damper, .queue, .headcount, .airRecord, .grant, .pairData, .history] s v := h.mono.then (emptied_changes u)
  have hvk : LinkKept s v := linkKept_trans (linkKept_beside h.mono) (linkKept_emptied u)
  have hroom : v.room = s.room := hv.room
  have hf : v.isFollower = s.isFollower := isFollower_congr hv.pair_state
  have hbegun : v.currentBegun = s.currentBegun := by
    unfold State.currentBegun
    rw [currentRecord_congr hv.room_current hv.sessions_records]
  have hwc := roomVacancy_changes v
  have heq : u.declareVacancy = v.roomVacancy.handOff s.observed := by
    rw [declareVacancy_eq, observed_of_changes h]
  obtain ⟨hcount, hlast, hmark⟩ := declareVacancy_evidence u
  have hroomEnd : u.declareVacancy.room = { v.roomVacancy.room with switchMarker := false } := declareVacancy_room u
  refine ⟨hcount, hlast, hmark, ?_, fun hfollower => ?_, fun hfree => ?_, fun hfree ho hb => ?_, ?_, ?_⟩
  · rw [hroomEnd]
    exact (roomVacancy_current v).trans (congrArg Room.current hroom)
  · rw [hroomEnd, roomVacancy_follower (hf.trans hfollower)]
    exact hv.room_occupancy
  · rw [hroomEnd, ← hroom, ← hbegun]
    exact roomVacancy_occupancy (hf.trans hfree)
  · have hrel := roomVacancy_release (s := v) (hf.trans hfree) (by rw [hroom, ho]) (hbegun.trans hb)
    rw [heq, ← hroom]
    refine latched_widen (latched_latchEvent (v.setOccupancy .released) _) (hvk.latches .release (by decide)) hvk.attempt ?_
    exact ((linkKept_handOff _ _).latches .release (by decide)).trans (congrArg (fun x : State => x.link.latches.get .release) hrel)
  · have ho := overridesTookIt_handOff (s := s) (u := v.roomVacancy) (by rw [hwc.overrides_records, hv.overrides_records])
    rw [hwc.room_switchMarker, hroom] at ho
    rw [heq]
    exact ho
  · rw [heq]
    exact roomReported_of_inOrder (reported_handOff (fun hs => queueSorted_roomVacancy (hvk.sorted hs))
      (hwc.pair_state.trans hv.pair_state))

end Sys2Proof.Machine.EvidenceProofs
end

section
/-! SUPPORT. The panel's key ROOM OFF (R37, R154, R156, R157). -/

namespace Sys2Proof.Machine.EvidenceProofs

/-! ### Override records through a handling without a session switch -/

/-- Without a session switch a handling only drops stale records, if any. -/
theorem handOff_get_unmarked {s : State} (hm : s.room.switchMarker = false) (before : Occupancy × Option Nat) (q : Quantity) :
    (s.handOff before).overrides.records.get q = s.overrides.records.get q ∨
      (s.handOff before).overrides.records.get q = (s.overrides.records.get q).filter fun r => r.stale.isNone := by
  have hs : s.handSwitch = s := if_neg (by simp [hm])
  rw [handOff_get, hs]
  split
  · exact .inr rfl
  · exact .inl rfl

theorem filter_fresh_twice (o : Option OverrideRecord) :
    (o.filter fun r => r.stale.isNone).filter (fun r => r.stale.isNone) = o.filter fun r => r.stale.isNone := by
  rw [Option.filter_filter]
  simp only [Bool.and_self]

theorem removeStale_get (s : State) (q : Quantity) :
    s.removeStale.overrides.records.get q = (s.overrides.records.get q).filter fun r => r.stale.isNone := by
  unfold State.removeStale
  rw [removeWhere_get]
  simp only [Option.not_isSome]

theorem removeLevel3_get (s : State) (q : Quantity) :
    s.removeLevel3.overrides.records.get q = (s.overrides.records.get q).filter fun r => decide (r.level ≠ 3) := by
  unfold State.removeLevel3
  rw [removeWhere_get]
  simp only [ne_eq, decide_not]

/-! ### A key pressed (R154) -/

theorem removeStale_changes (s : State) : Changes Part.readers s s.removeStale := removeWhere_changes s _

/-- What a pressed key changes before its own step: the headcount is not among it. -/
theorem keyPressed_changes (s : State) :
    Changes ([.attempt, .history, .occupancy, .switchMarker, .pairData] ++ Part.readers) s s.keyPressed :=
  (evidenceEvent_changes s .panel).then (removeStale_changes _)

theorem keyPressed_lastEvidence (s : State) : s.keyPressed.evidence.lastEvidence = some s.now := by
  have h : s.keyPressed.evidence = (s.evidenceEvent .panel).evidence := (removeStale_changes _).evidence
  rw [h, evidenceEvent_evidence]
  rfl

theorem keyPressed_room (s : State) : s.keyPressed.room = (s.evidenceEvent .panel).room := (removeStale_changes _).room

/-- A pressed key leaves the records that are not stale. -/
theorem keyPressed_get {s : State} (hm : s.room.switchMarker = false) (q : Quantity) :
    s.keyPressed.overrides.records.get q = (s.overrides.records.get q).filter fun r => r.stale.isNone := by
  let u := (s.recordEvidence .panel).roomEvidence (s.confirms .panel)
  have hu : Changes [.history, .queue, .latches, .occupancy] s u := (recordEvidence_changes s _).mono.then (roomEvidence_changes _ _)
  have hrecords : (s.evidenceEvent .panel).overrides.records = (u.handOff s.observed).overrides.records := by
    rw [evidenceEvent_eq]
    split
    · exact (reportEvidence_changes _).overrides_records
    · rfl
  unfold State.keyPressed
  rw [removeStale_get, hrecords, ← hu.overrides_records]
  rcases handOff_get_unmarked (hu.room_switchMarker.trans hm) s.observed q with h | h
  · rw [h]
  · rw [h, filter_fresh_twice]

theorem keyPressed_panelTests (s : State) : s.keyPressed.panelTests = s.panelTests := by
  have hc := keyPressed_changes s
  unfold State.panelTests
  rw [lifeSafetyActive_congr hc.overrides_lifeSafety, hc.overrides_hold]

/-- A pressed key leaves the latches of all other kinds, and which frame is in flight. -/
theorem linkTold_keyPressed (s : State) : LinkTold s s.keyPressed := by
  have ht := linkTold_evidenceEvent s .panel
  have hk : LinkKept (s.evidenceEvent .panel) s.keyPressed := linkKept_removeWhere _ _
  exact ⟨fun j => (inFlight_congr hk.attempt j).trans (ht.flight j), fun j => (statusCarries_congr hk.attempt j).trans (ht.status j),
    fun j hadhoc hblind => (hk.latches j hblind).trans (ht.latches j hadhoc hblind), fun hs => hk.sorted (ht.sorted hs)⟩

/-! ### The indicator (R157) -/

theorem indicate_changes (s : State) (accepted : Bool) : Changes [.indicator] s (s.indicate accepted) :=
  State.indicate_changes (.refl _ _) _ rfl

/-- The indicator of the state a key has left is sent, or waits. -/
theorem indicatorSent_indicate {s u : State} (hsending : u.overrides.sending = s.overrides.sending) (accepted : Bool) :
    IndicatorSent s (u.indicate accepted) accepted := by
  have hc := indicate_changes u accepted
  unfold IndicatorSent
  rw [hc.room_occupancy, hc.light, ← hsending]
  unfold State.indicate State.sendIndicator State.modOverrides
  refine ⟨fun hnone => ?_, fun hsome => ?_⟩
  · simp [hnone]
  · rw [← Option.not_isNone, Bool.not_eq_true'] at hsome
    simp [hsome]

/-! ### ROOM OFF (R156) -/

theorem roomOff_pressed {s : State} (hrun : s.isRunning = true) :
    exec .roomOff s = .next ((s.keyPressed.askRoomOff).1.indicate (s.keyPressed.askRoomOff).2) :=
  congrArg _ (whileRunning_of_running hrun _)

theorem askRoomOff_refused {s : State} {reason : RefusalReason} (h : s.panelTests = some reason) :
    s.askRoomOff = (s.latchEvent (.overrideRefused 0 .roomOff reason), false) := by
  unfold State.askRoomOff
  rw [h]

theorem askRoomOff_accepted {s : State} (h : s.panelTests = none) : s.askRoomOff = (s.removeLevel3.requestVacancy, true) := by
  unfold State.askRoomOff
  rw [h]

/-- A ROOM OFF that a test refuses is PANEL evidence with its event and its indicator. -/
theorem roomOff_refused {s : State} (hm : s.room.switchMarker = false) {reason : RefusalReason} (h : s.panelTests = some reason) :
    KeyRefused s ((s.keyPressed.askRoomOff).1.indicate (s.keyPressed.askRoomOff).2) .roomOff reason := by
  let x := s.keyPressed
  let y := x.latchEvent (.overrideRefused 0 .roomOff reason)
  have hask : x.askRoomOff = (y, false) := askRoomOff_refused ((keyPressed_panelTests s).trans h)
  have hy : Changes [.queue, .latches] x y := State.latchEvent_changes (.refl _ _) _ rfl
  have hi := indicate_changes y false
  have hx := keyPressed_changes s
  have ht := linkTold_keyPressed s
  rw [hask]
  refine ⟨?_, indicatorSent_indicate (hy.overrides_sending.trans hx.overrides_sending) _, ?_, fun q => ?_⟩
  · rw [hi.evidence, hy.evidence]
    exact keyPressed_lastEvidence s
  · exact latched_between (latched_latchEvent x _) (ht.latches .overrideRefused (by decide) (by decide)) (ht.flight _) (ht.status _)
      (congrArg (fun l : PerEvent (Option Latch) => l.get .overrideRefused) hi.link_latches)
  · rw [hi.overrides_records, hy.overrides_records]
    exact keyPressed_get hm q

theorem requestVacancy_changes (s : State) : Changes Part.handling s s.requestVacancy :=
  State.requestVacancy_changes (.refl _ _) rfl

/-- A declared vacancy without a session switch leaves records that are not stale. -/
theorem requestVacancy_get {s : State} (hm : s.room.switchMarker = false) {q : Quantity}
    (hfresh : (s.overrides.records.get q).filter (fun r => r.stale.isNone) = s.overrides.records.get q) :
    s.requestVacancy.overrides.records.get q = s.overrides.records.get q := by
  unfold State.requestVacancy
  split
  · let u := ((s.setHeadcount 0).clearHistory).roomVacancy
    have hu : Changes [.damper, .queue, .headcount, .airRecord, .grant, .pairData, .history, .latches, .occupancy] s u :=
      (emptied_changes s).mono.then (roomVacancy_changes _)
    rw [declareVacancy_eq]
    rcases handOff_get_unmarked (hu.room_switchMarker.trans hm) s.observed q with h | h
    · rw [h, hu.overrides_records]
    · rw [h, hu.overrides_records, hfresh]
  · rfl

/-- In ADHOC, at a node that is no follower, ROOM OFF declares vacancy (R37). -/
theorem requestVacancy_adhoc {s : State} (hf : s.isFollower = false) (ho : s.room.occupancy = .adhoc) :
    s.requestVacancy.room.occupancy = .vacant ∧ s.requestVacancy.evidence.headcount = 0 ∧
      s.requestVacancy.evidence.lastEvidence = none := by
  have heq : s.requestVacancy = s.declareVacancy := if_pos ⟨ho, by simp [hf]⟩
  obtain ⟨hcount, hlast, -, -, -, hfree, -⟩ := vacancyDeclared_of_changes (s := s) (.refl _ _)
  rw [heq, hfree hf, ho]
  exact ⟨rfl, hcount, hlast⟩

/-- Settles O54: the key is evidence, the tests of R150 refuse it, and otherwise the level-3 records and an ADHOC room go. -/
theorem roomOffClearsThePanelRecords : Obligations.RoomOffClearsThePanelRecords := by
  refine ⟨fun s hrun hm => ?_, fun s => ⟨fun _ _ => rfl, rfl⟩⟩
  refine ⟨_, roomOff_pressed hrun, fun hsafe hhold => ?_, fun hsafe => roomOff_refused hm ?_, fun hsafe hhold => roomOff_refused hm ?_⟩
  · let x := s.keyPressed
    let y := x.removeLevel3
    have hask : x.askRoomOff = (y.requestVacancy, true) :=
      askRoomOff_accepted ((keyPressed_panelTests s).trans (by simp [State.panelTests, hsafe, hhold]))
    have hx := keyPressed_changes s
    have hy : Changes Part.readers x y := removeWhere_changes x _
    have hz := requestVacancy_changes y
    have hi := indicate_changes y.requestVacancy true
    have hroom : y.room = (s.evidenceEvent .panel).room := hy.room.trans (keyPressed_room s)
    have hget : ∀ q, y.overrides.records.get q =
        (s.overrides.records.get q).filter fun r => r.stale.isNone && decide (r.level ≠ 3) := fun q => by
      rw [removeLevel3_get, keyPressed_get hm, Option.filter_filter]
    rw [hask]
    refine ⟨fun q => ?_, indicatorSent_indicate (hz.overrides_sending.trans (hy.overrides_sending.trans hx.overrides_sending)) _,
      fun hf ho => ?_⟩
    · rw [hi.overrides_records, requestVacancy_get (by rw [hroom, evidenceEvent_room]) ?_, hget]
      rw [hget, Option.filter_filter]
      congr 1
      funext r
      cases r.stale.isNone <;> simp
    · have hfollower : y.isFollower = false := (isFollower_congr (hy.pair_state.trans hx.pair_state)).trans hf
      have hadhoc : y.room.occupancy = .adhoc := by
        rw [hroom, evidenceEvent_room, roomEvidence_room (s := s.recordEvidence .panel) hf]
        show occupancyAfterEvidence s.room.occupancy _ = _
        rw [ho]
        rfl
      rw [hi.room_occupancy, hi.evidence]
      exact requestVacancy_adhoc hfollower hadhoc
  · simp [State.panelTests, hsafe]
  · simp [State.panelTests, hsafe, hhold]

end Sys2Proof.Machine.EvidenceProofs
end

section
/-! SUPPORT. The quiet-time expiries, the overrun timer, and the test at an examination's end (R34 to R36, R57). -/

namespace Sys2Proof.Machine.EvidenceProofs

/-! ### The quiet time (R34, R36) -/

theorem holdMs_eq (s : State) : s.holdMs = 60000 * s.cfg.vacancyHold := Nat.mul_comm _ _

theorem holdMs_congr {s t : State} (h : t.cfg = s.cfg) : t.holdMs = s.holdMs := by
  rw [holdMs_eq, holdMs_eq, h]

theorem declareVacancy_now (s : State) : s.declareVacancy.now = s.now :=
  Changes.now (ps := Part.handling) (State.declareVacancy_changes (.refl _ _) rfl)

theorem testedHeadcount_of_changes {ps : List Part} {s t : State} (h : Changes ps s t)
    (hp : ∀ p ∈ [Part.pairState, .pairData, .headcount], p ∉ ps := by decide) : t.testedHeadcount = s.testedHeadcount :=
  testedHeadcount_congr (h.pair_state (hp _ (by decide))) (h.pair_combined (hp _ (by decide)))
    (h.evidence_headcount (hp _ (by decide)))

/-- The test at one hold declares vacancy or marks the hold passed. -/
theorem vacancyHoldExpiry_acts {s : State} {e : Nat} (hrun : s.isRunning = true) (he : s.evidence.lastEvidence = some e)
    (hp : s.evidence.holdPassed = false) :
    ∃ t, exec .vacancyHoldExpiry s = .next t ∧ t.now = max s.now (e + 60000 * s.cfg.vacancyHold) ∧
      (s.suppressedBy = none → s.testedHeadcount = 0 → VacancyDeclared s t) ∧
      (s.suppressedBy ≠ none ∨ s.testedHeadcount ≠ 0 →
        Changes [.now, .history] s t ∧ t.evidence.holdPassed = true ∧ t.evidence.lastEvidence = some e) := by
  have hdue : s.holdDue = some (e + 60000 * s.cfg.vacancyHold) := by
    unfold State.holdDue
    rw [if_neg (by simp [hp]), he, ← holdMs_eq]
    rfl
  let a := s.advanceTo (e + 60000 * s.cfg.vacancyHold)
  let u := a.modEvidence fun x => { x with holdPassed := true }
  have hu : Changes [.now, .history] s u :=
    State.modEvidence_changes (State.advanceTo_changes (.refl _ _) _ rfl) _ (.inr fun _ => ⟨rfl, rfl, rfl⟩) (.inr fun _ => rfl)
      (.inl rfl) (.inr fun _ => ⟨rfl, rfl, rfl, rfl, rfl⟩)
  refine ⟨a.passHold, congrArg _ (onExpiry_running hrun hdue _), ?_⟩
  by_cases h : s.suppressedBy = none ∧ s.testedHeadcount = 0
  · have heq : a.passHold = u.declareVacancy := if_pos h
    rw [heq, declareVacancy_now]
    exact ⟨rfl, fun _ _ => vacancyDeclared_of_changes hu, fun hn => absurd h (not_and_or.mpr hn)⟩
  · have heq : a.passHold = u := if_neg h
    rw [heq]
    exact ⟨rfl, fun hnone hcount => absurd ⟨hnone, hcount⟩ h, fun _ => ⟨hu, rfl, he⟩⟩

/-- The expiry at three holds declares vacancy, unless it is suppressed, and marks three holds passed. -/
theorem tripleHoldExpiry_acts {s : State} {e : Nat} (hrun : s.isRunning = true) (he : s.evidence.lastEvidence = some e)
    (hp : s.evidence.triplePassed = false) :
    ∃ t, exec .tripleHoldExpiry s = .next t ∧ t.now = max s.now (e + 3 * (60000 * s.cfg.vacancyHold)) ∧
      (s.suppressedBy = none → VacancyDeclared s t) ∧
      (s.suppressedBy ≠ none →
        Changes [.now, .history] s t ∧ t.evidence.triplePassed = true ∧ t.evidence.lastEvidence = some e) := by
  have hdue : s.tripleDue = some (e + 3 * (60000 * s.cfg.vacancyHold)) := by
    unfold State.tripleDue
    rw [if_neg (by simp [hp]), he, ← holdMs_eq]
    rfl
  let a := s.advanceTo (e + 3 * (60000 * s.cfg.vacancyHold))
  let u := a.modEvidence fun x => { x with triplePassed := true }
  have hu : Changes [.now, .history] s u :=
    State.modEvidence_changes (State.advanceTo_changes (.refl _ _) _ rfl) _ (.inr fun _ => ⟨rfl, rfl, rfl⟩) (.inr fun _ => rfl)
      (.inl rfl) (.inr fun _ => ⟨rfl, rfl, rfl, rfl, rfl⟩)
  refine ⟨a.passTriple, congrArg _ (onExpiry_running hrun hdue _), ?_⟩
  by_cases h : s.suppressedBy = none
  · have heq : a.passTriple = u.declareVacancy := if_pos h
    rw [heq, declareVacancy_now]
    exact ⟨rfl, fun _ => vacancyDeclared_of_changes hu, fun hn => absurd h hn⟩
  · have heq : a.passTriple = u := if_neg h
    rw [heq]
    exact ⟨rfl, fun hnone => absurd hnone h, fun _ => ⟨hu, rfl, he⟩⟩

/-! ### The overrun timer (R57) -/

/-- The room in ADHOC after an overrun, with its event. -/
def toAdhoc (s : State) : State := (s.clearOverrun.setOccupancy .adhoc).latchEvent (.adhoc s.testedHeadcount)

theorem toAdhoc_changes (s : State) : Changes [.occupancy, .queue, .latches] s (toAdhoc s) :=
  State.latchEvent_changes (State.setOccupancy_changes (State.clearOverrun_changes (.refl _ _) rfl) _ rfl) _ rfl

theorem toAdhoc_room (s : State) :
    (toAdhoc s).room = { s.room with occupancy := .adhoc, overrunScene := none, overrunDue := none } := latchEvent_room _ _

theorem overrunTimerExpiry_acts {s : State} {due : Nat} (hrun : s.isRunning = true) (hdue : s.room.overrunDue = some due)
    (ho : s.room.occupancy = .overrun) :
    ∃ t, exec .overrunTimerExpiry s = .next t ∧ t.now = max s.now due ∧ t.room.occupancy = .adhoc ∧
      t.room.overrunScene = none ∧ t.room.overrunDue = none ∧ t.room.current = s.room.current ∧
      Latched s t (.adhoc s.testedHeadcount) ∧ RoomReported s t := by
  let a := s.advanceTo due
  have hfree : a.suppressedBy = none := Decidable.byContradiction fun h => by
    have hocc := occupied_of_suppressedBy h
    rw [show a.room.occupancy = s.room.occupancy from rfl, ho] at hocc
    cases hocc
  have heq : a.overrunExpired = (toAdhoc a).handOff s.observed := handling_eq_handle (core := toAdhoc) (.inl hfree)
  have hroom : a.overrunExpired.room = { (toAdhoc a).room with switchMarker := false } := by rw [heq, handOff_room]
  refine ⟨a.overrunExpired, congrArg _ (onExpiry_running hrun (timer := fun x => x.room.overrunDue) hdue _), ?_⟩
  rw [hroom, toAdhoc_room]
  refine ⟨?_, rfl, rfl, rfl, rfl, ?_, ?_⟩
  · rw [heq, (handOff_changes _ _).now, (toAdhoc_changes a).now]
    rfl
  · rw [heq]
    exact latched_widen (latched_latchEvent (a.clearOverrun.setOccupancy .adhoc) (.adhoc a.testedHeadcount)) rfl rfl
      ((linkKept_handOff _ _).latches .adhoc (by decide))
  · rw [heq]
    exact roomReported_of_inOrder (reported_handOff
      (fun hs => queueSorted_latchEvent (queueSorted_congr (t := a.clearOverrun.setOccupancy .adhoc) hs rfl rfl) _)
      (toAdhoc_changes a).pair_state)

/-! ### The test where suppression ends (R36) -/

/-- Vacancy is declared against a quiet time since an event. -/
def VacantSince (s : State) (e : Nat) : Prop :=
  3 * s.holdMs ≤ s.now - e ∨ (s.holdMs ≤ s.now - e ∧ s.testedHeadcount = 0)

theorem deferredTest_quiet {s : State} (h : s.evidence.lastEvidence = none) : s.deferredTest = s := by
  unfold State.deferredTest
  rw [h]

theorem deferredTest_vacant {s : State} {e : Nat} (h : s.evidence.lastEvidence = some e) (hv : VacantSince s e) :
    s.deferredTest = s.declareVacancy := by
  unfold State.deferredTest
  rw [h]
  dsimp only
  rcases hv with hv | hv
  · exact if_pos hv
  · rw [if_pos hv, ite_self]

theorem deferredTest_stands {s : State} {e : Nat} (h : s.evidence.lastEvidence = some e) (hv : ¬ VacantSince s e) :
    s.deferredTest = s := by
  obtain ⟨htriple, hhold⟩ := not_or.mp hv
  unfold State.deferredTest
  rw [h]
  dsimp only
  rw [if_neg htriple, if_neg hhold]

/-- A handling that ends suppression is followed by the test. -/
theorem handling_ends {s : State} {core : State → State} (h : s.suppressedBy ≠ none)
    (hends : (s.handle core).suppressedBy ≠ s.suppressedBy) : s.handling core = (s.handle core).deferredTest := if_pos ⟨h, hends⟩

theorem handling_tests {s : State} {core : State → State} (h : s.suppressedBy ≠ none)
    (hends : (s.handle core).suppressedBy ≠ s.suppressedBy) :
    let u := s.handle core
    let hold := 60000 * s.cfg.vacancyHold
    let t := s.handling core
    u.cfg = s.cfg →
    (u.evidence.lastEvidence = none → t = u) ∧
    ∀ e, u.evidence.lastEvidence = some e →
      (3 * hold ≤ u.now - e → VacancyDeclared u t) ∧
      (u.now - e < 3 * hold → hold ≤ u.now - e → u.testedHeadcount = 0 → VacancyDeclared u t) ∧
      (u.now - e < 3 * hold → u.now - e < hold ∨ u.testedHeadcount ≠ 0 → t = u) := by
  dsimp only
  intro hcfg
  rw [handling_ends h hends, ← holdMs_eq, ← holdMs_congr hcfg]
  refine ⟨deferredTest_quiet, fun e he => ⟨fun htriple => ?_, fun _ hhold hcount => ?_, fun htriple hstands => ?_⟩⟩
  · rw [deferredTest_vacant he (.inl htriple)]
    exact vacancyDeclared_of_changes (.refl _ _)
  · rw [deferredTest_vacant he (.inr ⟨hhold, hcount⟩)]
    exact vacancyDeclared_of_changes (.refl _ _)
  · refine deferredTest_stands he ?_
    rintro (hv | ⟨hhold, hcount⟩)
    · omega
    · rcases hstands with hstands | hstands
      · omega
      · exact hstands hcount

end Sys2Proof.Machine.EvidenceProofs
end

section
/-! SUPPORT. A cancelled examination (R22, R36, R51), and the statement about the quiet time. -/

namespace Sys2Proof.Machine.EvidenceProofs

/-! ### A frame taken (R164, R165) -/

theorem receive_taken {s : State} {f : Frame} {required : Nat} (h : Taken s f required) (kind : Nat) (act : State → State) :
    s.receive kind required f act = act (s.recordPeer f.src.toNat) := by
  have hd : s.discards f = false := by
    obtain ⟨hlow, hhigh⟩ := h.source
    simp only [State.discards, h.clean, h.foreign, Bool.false_or, decide_false, Bool.or_eq_false_iff, decide_eq_false_iff_not]
    exact ⟨by omega, by omega⟩
  unfold State.receive State.dispatch
  rw [whileRunning_of_running h.running, if_neg (by simp [hd]), if_neg (Nat.not_lt.mpr h.cls)]

/-! ### What is armed leaves the evidence -/

/-- In a suppressed room no A, B or G changes the suppression. -/
theorem deliverCore_suppressed {s : State} {p : Point} (hp : p ≠ .pointE) (id : Nat) (h : s.suppressedBy ≠ none) :
    (s.deliverCore p id).suppressedBy = s.suppressedBy := by
  have ho := occupied_of_suppressedBy h
  cases p with
  | pointA =>
    show (s.deliverA id).suppressedBy = _
    unfold State.deliverA
    rw [ho, ite_self]
  | pointB =>
    have hbegin : (s.beginSession id).suppressedBy = s.suppressedBy := by
      have hc : Changes [.queue, .latches, .switchMarker] s (s.beginSession id) := State.beginSession_changes (.refl _ _) id rfl
      exact suppressedBy_congr hc.room_current hc.sessions_records hc.room_occupancy
    show (s.deliverB id).suppressedBy = _
    unfold State.deliverB
    rw [ho, if_neg (show ¬ Occupancy.occupied = .precondition by decide)]
    split
    · rfl
    · split
      · exact hbegin
      · rfl
  | pointG =>
    show (s.deliverG id).suppressedBy = _
    unfold State.deliverG
    rw [ho, if_neg (by simp)]
  | pointE => exact absurd rfl hp

/-- A delivered A, B or G ends no suppression, so that no vacancy follows it. -/
theorem deliver_evidence (s : State) {p : Point} (hp : p ≠ .pointE) (id : Nat) : (s.deliver p id).evidence = s.evidence := by
  let u := s.modRecordOf id (·.mark p)
  have hc : Changes [.queue, .latches, .records, .occupancy, .switchMarker] u (u.deliverCore p id) :=
    State.deliverCore_changes (.refl _ _) p id rfl
  have heq : s.deliver p id = (u.deliverCore p id).handOff u.observed := by
    refine handling_eq_handle ?_
    by_cases h : u.suppressedBy = none
    · exact .inl h
    · exact .inr (deliverCore_suppressed hp id h)
  rw [heq, (handOff_changes _ _).evidence, hc.evidence]
  rfl

theorem lateDeliver_evidence {after : State → State} (ha : ∀ u, (after u).evidence = u.evidence) (s : State) {p : Point}
    (hp : p ≠ .pointE) (id : Nat) : (s.lateDeliver p id after).evidence = s.evidence := by
  unfold State.lateDeliver
  split
  · rw [ha, deliver_evidence s hp]
  · rfl

theorem lateDeliverAB_evidence {after : State → State} (ha : ∀ u, (after u).evidence = u.evidence) (s : State) (id : Nat) :
    (s.lateDeliverAB id after).evidence = s.evidence := by
  unfold State.lateDeliverAB
  split
  · rw [ha, deliver_evidence _ (by decide)]
    rfl
  · rw [lateDeliver_evidence ha _ (by decide), lateDeliver_evidence ha _ (by decide)]

theorem armLevels_evidence : ∀ (n : Nat) (s : State), (armLevels n s).evidence = s.evidence
  | 0, _ => rfl
  | n + 1, s => by
    have ha := armLevels_evidence n
    unfold armLevels
    split
    · rfl
    · split
      · rfl
      · rw [lateDeliver_evidence ha _ (by decide), lateDeliverAB_evidence ha]

/-! ### A retired record leaves the table (R51) -/

theorem recordOf_mem {s : State} {id : Nat} {r : Session} (h : s.recordOf id = some r) : r ∈ s.sessions.records ∧ r.id = id :=
  ⟨List.mem_of_find?_eq_some h, by simpa using List.find?_some h⟩

theorem currentRecord_eq {s : State} {r : Session} (h : s.currentRecord = some r) :
    r ∈ s.sessions.records ∧ s.room.current = some r.id := by
  obtain ⟨id, hid, hr⟩ := Option.bind_eq_some_iff.mp h
  obtain ⟨hmem, rfl⟩ := recordOf_mem hr
  exact ⟨hmem, hid⟩

theorem mem_of_suppressedBy {s : State} {id : Nat} (h : s.suppressedBy = some id) : ∃ r ∈ s.sessions.records, r.id = id := by
  unfold State.suppressedBy at h
  split at h
  next r hr =>
    split at h
    · exact ⟨r, (currentRecord_eq hr).1, Option.some.inj h⟩
    · cases h
  next => cases h

theorem suppressedBy_exam {s : State} {r : Session} (hr : s.currentRecord = some r) (hkind : r.kind = .exam)
    (ho : s.room.occupancy = .occupied) : s.suppressedBy = some r.id := by
  unfold State.suppressedBy
  rw [hr]
  exact if_pos ⟨hkind, ho⟩

/-- Points marked taken change no record's id. -/
theorem ids_markCurrentPassed (s : State) :
    s.markCurrentPassed.sessions.records.map (·.id) = s.sessions.records.map (·.id) := by
  have hid : ∀ (r : Session) (id now : Nat), (if r.id = id then r.markPassed now else r).id = r.id := fun r id now => by
    split <;> rfl
  unfold State.markCurrentPassed
  split
  next id _ =>
    show (s.sessions.records.map _).map _ = _
    rw [List.map_map]
    exact List.map_congr_left fun r _ => hid r id _
  next => rfl

theorem succeed_changes (s : State) (r : Session) (c : Successor) : Changes [.queue, .latches, .occupancy] s (s.succeed r c) :=
  State.succeed_changes (.refl _ _) r c rfl

theorem retire_removes {s : State} {r : Session} (hr : s.currentRecord = some r) (atEnd : Bool) :
    ∀ x ∈ (s.retire atEnd).sessions.records, x.id ≠ r.id := by
  let u := (s.removeSession r.id).releaseMark
  let v := ((u.succeed r u.successor).latchEvent (.sessionEnd r.id (atEnd && u.successor = .overrun))).raiseSwitch
  have heq : s.retire atEnd = v.markCurrentPassed := by
    unfold State.retire
    rw [hr]
  have hc : Changes [.queue, .latches, .occupancy, .switchMarker] u v :=
    State.raiseSwitch_changes (State.latchEvent_changes (succeed_changes u r _).mono _ rfl) rfl
  intro x hx hid
  rw [heq] at hx
  have hmem : x.id ∈ v.sessions.records.map (·.id) := by
    rw [← ids_markCurrentPassed]
    exact List.mem_map_of_mem hx
  rw [hc.sessions_records] at hmem
  obtain ⟨y, hy, hyid⟩ := List.mem_map.mp hmem
  have hne : y.id ≠ r.id := by simpa using (List.mem_filter.mp hy).2
  exact hne (hyid.trans hid)

/-! ### A cancelled examination (R22, R36) -/

/-- What a handling that retires the current record leaves of what the test reads. -/
theorem handle_retire_changes (s : State) :
    Changes ([.records, .occupancy, .switchMarker] ++ Part.readers) s (s.handle fun x => x.retire false) :=
  State.handle_changes (fun x => State.retire_changes (.refl _ x) false rfl) (.refl _ _) rfl

/-- A retired examination suppresses nothing more. -/
theorem handle_retire_suppressedBy {s : State} {r : Session} (hr : s.currentRecord = some r) :
    (s.handle fun x => x.retire false).suppressedBy ≠ some r.id := by
  intro h
  have hsame : (s.handle fun x => x.retire false).suppressedBy = (s.retire false).suppressedBy := suppressedBy_handOff _ _
  rw [hsame] at h
  obtain ⟨x, hx, hid⟩ := mem_of_suppressedBy h
  exact retire_removes hr false x hx hid

/-- The cancelled current examination is retired, the deferred test made, and the next record armed. -/
theorem cancelSession_exam {s : State} {r : Session} (hr : s.currentRecord = some r) (hkind : r.kind = .exam)
    (ho : s.room.occupancy = .occupied) :
    s.cancelSession r.id = (s.handle fun x => x.retire false).deferredTest.armNext := by
  obtain ⟨hmem, hcurrent⟩ := currentRecord_eq hr
  have hsuppressed := suppressedBy_exam hr hkind ho
  have hheld : (s.recordOf r.id).isNone = false := by
    unfold State.recordOf
    rw [Option.isNone_eq_false_iff, List.find?_isSome]
    exact ⟨r, hmem, by simp⟩
  unfold State.cancelSession
  rw [if_neg (by simp [hheld]), if_pos hcurrent, handling_ends (by simp [hsuppressed])]
  rw [hsuppressed]
  exact handle_retire_suppressedBy hr

/-- Settles O34: the two expiries, the overrun timer, the test at the end of a suppression, and a cancelled examination's. -/
theorem quietTimeAndOverrunTimerAct : Obligations.QuietTimeAndOverrunTimerAct := by
  refine ⟨fun s e hrun he => ⟨vacancyHoldExpiry_acts hrun he, tripleHoldExpiry_acts hrun he⟩,
    fun s due hrun hdue ho => overrunTimerExpiry_acts hrun hdue ho, fun s core h hends => handling_tests h hends,
    fun f s r e htaken hdecode _ hr hkind ho he => ?_⟩
  let u := s.recordPeer f.src.toNat
  let v := u.handle fun x => x.retire false
  have hu : Changes [.peers, .airRecord, .grant, .damper, .queue] s u := State.recordPeer_changes (.refl _ _) _ rfl
  have hv : Changes ([.peers, .records, .occupancy, .switchMarker] ++ Part.readers) s v := hu.mono.then (handle_retire_changes u)
  have hcancel : u.cancelSession r.id = v.deferredTest.armNext :=
    cancelSession_exam ((currentRecord_congr hu.room_current hu.sessions_records).trans hr) hkind (hu.room_occupancy.trans ho)
  have hexec : exec (.ttCancel f) s = .next v.deferredTest.armNext := by
    show Host.Outcome.next _ = _
    rw [receive_taken htaken, hdecode, ← hcancel]
  have hlast : v.evidence.lastEvidence = some e := hv.evidence_lastEvidence.trans he
  have hvacant : VacantSince v e ↔
      3 * (60000 * s.cfg.vacancyHold) ≤ s.now - e ∨ (60000 * s.cfg.vacancyHold ≤ s.now - e ∧ s.testedHeadcount = 0) := by
    unfold VacantSince
    rw [holdMs_congr hv.cfg, holdMs_eq, hv.now, testedHeadcount_of_changes hv]
  refine ⟨v.deferredTest.armNext, hexec, fun h => ?_, fun h => ?_⟩
  · rw [State.armNext, armLevels_evidence, deferredTest_vacant hlast (hvacant.mpr h)]
    exact declareVacancy_evidence v
  · rw [State.armNext, armLevels_evidence, deferredTest_stands hlast (mt hvacant.mp h)]
    exact hv.evidence

end Sys2Proof.Machine.EvidenceProofs
end

section
/-! SUPPORT. What the lights and the blinds are decided from, what their decision leaves them with, and what keeps it. -/

namespace Sys2Proof.Machine.RoomProofs
open Sys2Proof.Machine.EvidenceProofs

/-! ### What the lights and the blinds read -/

/-- What the lights and the blinds read of a session record (R64, R97, R107). -/
def lit (r : Session) : Nat × Option Preference := (r.scene, r.pref)

/-- From the first state to the second, what the lights and the blinds read stands, but for the override records and the policy of
the scene in use. Of the room and its record a joined follower reads the occupancy state alone (R111). -/
structure SameRoom (s t : State) : Prop where
  cfg : t.cfg = s.cfg
  follower : t.isFollower = s.isFollower
  mirror : t.pair.mirror = s.pair.mirror
  safety : t.lifeSafetyActive = s.lifeSafetyActive
  glare : t.shade.glare = s.shade.glare
  occupancy : t.room.occupancy = s.room.occupancy
  overrun : s.isFollower = false → s.room.occupancy = .overrun → t.room.overrunScene = s.room.overrunScene
  current : s.isFollower = false → t.currentRecord.map lit = s.currentRecord.map lit

/-- The value of a quantity's record stands. -/
def SameValue (s t : State) (q : Quantity) : Prop :=
  (t.overrides.records.get q).map (·.value) = (s.overrides.records.get q).map (·.value)

theorem sameRoom_trans {s t u : State} (h : SameRoom s t) (k : SameRoom t u) : SameRoom s u where
  cfg := k.cfg.trans h.cfg
  follower := k.follower.trans h.follower
  mirror := k.mirror.trans h.mirror
  safety := k.safety.trans h.safety
  glare := k.glare.trans h.glare
  occupancy := k.occupancy.trans h.occupancy
  overrun hf ho := (k.overrun (h.follower.trans hf) (h.occupancy.trans ho)).trans (h.overrun hf ho)
  current hf := (k.current (h.follower.trans hf)).trans (h.current hf)

theorem currentScene_eq (s : State) : s.currentRecord.map (·.scene) = (s.currentRecord.map lit).map (·.1) := by
  rw [Option.map_map]; rfl

theorem currentPref_eq (s : State) : s.currentRecord.bind (·.pref) = (s.currentRecord.map lit).bind (·.2) := by
  cases s.currentRecord <;> rfl

theorem followedRecord_own {s : State} (h : s.isFollower = false) : s.followedRecord = s.currentRecord := by
  simp [State.followedRecord, State.sessionId, State.currentRecord, h]

theorem activeValue_eq (s : State) (q : Quantity) :
    (s.activeOverride q).map (·.value) = if s.lifeSafetyActive then none else (s.overrides.records.get q).map (·.value) := by
  unfold State.activeOverride
  split <;> rfl

section SameRoom
variable {s t : State} (h : SameRoom s t)
include h

theorem activeValue_same {q : Quantity} (hq : SameValue s t q) :
    (t.activeOverride q).map (·.value) = (s.activeOverride q).map (·.value) := by
  rw [activeValue_eq, activeValue_eq, h.safety, hq]

theorem selectedScene_same : t.selectedScene = s.selectedScene := by
  unfold State.selectedScene
  rw [h.follower, h.mirror, h.occupancy]
  cases hf : s.isFollower with
  | true => rfl
  | false =>
    rw [currentScene_eq, currentScene_eq, h.current hf]
    cases ho : s.room.occupancy with
    | overrun => simp [h.overrun hf ho]
    | _ => rfl

theorem sceneOverride_same (hq : SameValue s t .lightScene) : t.sceneOverride = s.sceneOverride := by
  have hvalue := congrArg (Option.map Int.toNat) (activeValue_same h hq)
  simp only [Option.map_map] at hvalue
  unfold State.sceneOverride
  rw [h.follower, h.mirror]
  split
  · rfl
  · exact hvalue

theorem activeNumber_same (hq : SameValue s t .lightScene) : t.activeNumber = s.activeNumber := by
  unfold State.activeNumber
  rw [sceneOverride_same h hq, selectedScene_same h]

theorem activeScene_same (hq : SameValue s t .lightScene) : t.activeScene = s.activeScene := by
  unfold State.activeScene
  rw [sceneOverride_same h hq, selectedScene_same h, h.cfg, h.occupancy]

theorem formTarget_same (hf : s.isFollower = false) (hq : SameValue s t .lightLevel) (rest : Nat) :
    t.formTarget rest = s.formTarget rest := by
  have htrim : t.preferenceTrim = s.preferenceTrim := by
    unfold State.preferenceTrim
    rw [followedRecord_own hf, followedRecord_own (h.follower.trans hf), currentPref_eq, currentPref_eq, h.current hf]
  have hlight : t.lightTrim = s.lightTrim := by
    unfold State.lightTrim
    rw [h.follower, h.mirror, activeValue_same h hq]
  unfold State.formTarget
  rw [htrim, hlight]

theorem effectivePolicy_same (hp : t.light.policy = s.light.policy) : t.effectivePolicy = s.effectivePolicy := by
  unfold State.effectivePolicy
  rw [h.follower, h.mirror, hp]
  cases hf : s.isFollower with
  | true => rfl
  | false => rw [currentPref_eq, currentPref_eq, h.current hf]

theorem bankTarget_same (hp : t.light.policy = s.light.policy) (hq : SameValue s t .blinds) (b : Bank) :
    t.bankTarget b = s.bankTarget b := by
  have hglare : t.glareInUse = s.glareInUse := by
    unfold State.glareInUse
    rw [h.follower, h.mirror, h.glare]
  have hpolicy : t.policyTarget b = s.policyTarget b := by
    unfold State.policyTarget
    rw [h.cfg, h.occupancy, effectivePolicy_same h hp, hglare]
  unfold SameValue at hq
  unfold State.bankTarget
  rw [h.safety, hpolicy]
  generalize t.overrides.records.get .blinds = x at hq ⊢
  generalize s.overrides.records.get .blinds = y at hq ⊢
  cases x <;> cases y <;> simp at hq <;> simp [hq]

theorem carriedValues_same (hp : t.light.policy = s.light.policy) (hscene : SameValue s t .lightScene)
    (hlevel : SameValue s t .lightLevel) : t.carriedValues = s.carriedValues := by
  have hvalue := congrArg (Option.map Int.toNat) (activeValue_same h hscene)
  simp only [Option.map_map] at hvalue
  unfold State.carriedValues
  rw [selectedScene_same h, activeValue_same h hlevel, effectivePolicy_same h hp, h.glare]
  exact congrArg (fun x => Handed.mk _ x _ _ _) hvalue

end SameRoom

/-! ### The lights and the blinds as they are decided -/

/-- The scene in use is the active one, and the loop target, but at a joined follower, is formed from it. -/
structure LightsSet (s : State) : Prop where
  scene : s.light.scene = s.activeNumber
  fields : s.light.front = s.activeScene.front ∧ s.light.rest = s.activeScene.rest ∧ s.light.policy = s.activeScene.policy
  target : s.isFollower = false → s.light.loopTarget = s.formTarget s.light.rest

/-- Every bank is held at its target, and the Pair Unit holds the values carried to the partner. -/
structure BlindsSet (s : State) : Prop where
  held : ∀ b, s.shade.held.get b = s.bankTarget b
  handed : s.pair.handed = s.carriedValues

theorem viewsOk_iff {s : State} : ViewsOk s ↔ (s.isRunning = true → LightsSet s ∧ BlindsSet s) := by
  refine ⟨fun ⟨scene, fields, target, held, handed⟩ hr => ⟨⟨scene hr, fields hr, target hr⟩, ⟨held hr, handed hr⟩⟩, fun h => ?_⟩
  exact ⟨fun hr => (h hr).1.scene, fun hr => (h hr).1.fields, fun hr => (h hr).1.target, fun hr => (h hr).2.held,
    fun hr => (h hr).2.handed⟩

/-- The scene in use, its fields and the loop target stand; the rest level may change. -/
structure SameLights (s t : State) : Prop where
  scene : t.light.scene = s.light.scene
  front : t.light.front = s.light.front
  rest : t.light.rest = s.light.rest
  policy : t.light.policy = s.light.policy
  target : t.light.loopTarget = s.light.loopTarget

theorem sameLights_of_light {s t : State} (h : t.light = s.light) : SameLights s t := by
  constructor <;> rw [h]

theorem lightsSet_same {s t : State} (h : LightsSet s) (hroom : SameRoom s t) (hlights : SameLights s t)
    (hscene : SameValue s t .lightScene) (hlevel : SameValue s t .lightLevel) : LightsSet t where
  scene := by rw [hlights.scene, activeNumber_same hroom hscene, h.scene]
  fields := by
    rw [hlights.front, hlights.rest, hlights.policy, activeScene_same hroom hscene]
    exact h.fields
  target hf := by
    have hown : s.isFollower = false := hroom.follower.symm.trans hf
    rw [hlights.target, hlights.rest, formTarget_same hroom hown hlevel, h.target hown]

/-- What stands while the lights, the blinds and the values carried do. -/
structure ViewsKept (s t : State) : Prop where
  running : t.isRunning = s.isRunning
  room : SameRoom s t
  values : ∀ q, SameValue s t q
  lights : SameLights s t
  held : t.shade.held = s.shade.held
  handed : t.pair.handed = s.pair.handed

theorem viewsOk_kept {s t : State} (h : ViewsOk s) (k : ViewsKept s t) : ViewsOk t := by
  refine viewsOk_iff.mpr fun hr => ?_
  obtain ⟨hlights, hblinds⟩ := viewsOk_iff.mp h (k.running.symm.trans hr)
  refine ⟨lightsSet_same hlights k.room k.lights (k.values _) (k.values _), fun b => ?_, ?_⟩
  · rw [k.held, bankTarget_same k.room k.lights.policy (k.values _), hblinds.held]
  · rw [k.handed, carriedValues_same k.room k.lights.policy (k.values _) (k.values _), hblinds.handed]

/-- The parts that the lights and the blinds neither read nor hold. -/
abbrev besideViews : List Part :=
  [.now, .pins, .dims, .damper, .motor, .receiver, .attempt, .pauses, .queue, .latches, .linkTimers, .peers, .clock, .transfer,
    .door, .headcount, .history, .samples, .switchMarker, .airRecord, .capacity, .grant, .published, .drive, .partition, .offers,
    .pairTimers, .pairData, .hold, .indicator, .draws, .line, .pending]

/-- The parts that the lights and the blinds read and do not hold. -/
abbrev viewInputs : List Part :=
  [.loader, .records, .occupancy, .glare, .pairState, .mirror, .modes]

theorem sameRoom_of_changes {ps : List Part} {s t : State} (h : Changes ps s t) (hp : ∀ p ∈ viewInputs, p ∉ ps := by decide) :
    SameRoom s t where
  cfg := h.cfg (hp _ (by decide))
  follower := isFollower_congr (h.pair_state (hp _ (by decide)))
  mirror := h.pair_mirror (hp _ (by decide))
  safety := lifeSafetyActive_congr (h.overrides_lifeSafety (hp _ (by decide)))
  glare := h.shade_glare (hp _ (by decide))
  occupancy := h.room_occupancy (hp _ (by decide))
  overrun _ _ := h.room_overrunScene (hp _ (by decide))
  current _ := by
    rw [currentRecord_congr (h.room_current (hp _ (by decide))) (h.sessions_records (hp _ (by decide)))]

theorem sameValue_of_changes {ps : List Part} {s t : State} (h : Changes ps s t) (q : Quantity)
    (hp : .overrideRecords ∉ ps := by decide) : SameValue s t q := by
  unfold SameValue
  rw [h.overrides_records hp]

theorem isRunning_congr {s t : State} (h : t.phase = s.phase) : t.isRunning = s.isRunning := by
  unfold State.isRunning
  rw [h]

theorem viewsKept_beside {s t : State} (h : Changes besideViews s t) : ViewsKept s t where
  running := isRunning_congr h.phase
  room := sameRoom_of_changes h
  values q := sameValue_of_changes h q
  lights := sameLights_of_light h.light
  held := h.shade_held
  handed := h.pair_handed

theorem viewsOk_beside {s t : State} (h : ViewsOk s) (hc : Changes besideViews s t) : ViewsOk t :=
  viewsOk_kept h (viewsKept_beside hc)

theorem viewsOk_stopped {s : State} (h : s.isRunning = false) : ViewsOk s :=
  viewsOk_iff.mpr fun hr => absurd (h.symm.trans hr) (by decide)

/-! ### Deciding the lights and the blinds afresh -/

theorem driveDims_light (s : State) : s.driveDims.light = s.light :=
  Changes.light (ps := [.dims]) (State.driveDims_changes (.refl _ _) rfl)

/-- What a decision of the lights can change. -/
theorem relight_changes (s : State) : Changes [.dims, .light] s s.relight := State.relight_changes (.refl _ _) rfl

/-- The lights after a decision: the active scene's fields, the loop target formed from them, and the rest level. -/
theorem relight_light (s : State) :
    s.relight.light =
      { scene := s.activeNumber, front := s.activeScene.front, rest := s.activeScene.rest, policy := s.activeScene.policy
        loopTarget := s.formTarget s.activeScene.rest
        restLevel :=
          if s.formTarget s.activeScene.rest = s.light.loopTarget then s.light.restLevel
          else s.levelAtChange (s.formTarget s.activeScene.rest) } := by
  unfold State.relight
  rw [driveDims_light]
  unfold State.useLoopTarget
  dsimp only
  have hform : s.useActiveScene.formTarget s.useActiveScene.light.rest = s.formTarget s.activeScene.rest := rfl
  have htarget : s.useActiveScene.light.loopTarget = s.light.loopTarget := rfl
  rw [hform, htarget]
  split
  next heq => rw [heq]; rfl
  next => rfl

theorem lightsSet_relight (s : State) : LightsSet s.relight := by
  have hroom : SameRoom s s.relight := sameRoom_of_changes (relight_changes s)
  have hvalue : ∀ q, SameValue s s.relight q := fun q => sameValue_of_changes (relight_changes s) q
  constructor
  · rw [activeNumber_same hroom (hvalue _), relight_light]
  · rw [activeScene_same hroom (hvalue _), relight_light]
    exact ⟨rfl, rfl, rfl⟩
  · intro hf
    rw [formTarget_same hroom (hroom.follower.symm.trans hf) (hvalue _), relight_light]

theorem handCarried_changes (s : State) : Changes [.queue, .handed] s s.handCarried := State.handCarried_changes (.refl _ _) rfl

/-- Once they are handed on, the Pair Unit holds the values carried. -/
theorem handCarried_handed (s : State) : s.handCarried.pair.handed = s.carriedValues := by
  have hq : ∀ (u : State) (k : ReportKind), (u.queueReport k).pair = u.pair := fun u k =>
    Changes.pair (ps := [.queue]) (State.queueReport_changes (.refl _ _) _ rfl)
  unfold State.handCarried
  dsimp only
  split
  next heq => exact heq.symm
  next =>
    split
    · rw [hq]; rfl
    · rfl

theorem handed_handCarried (s : State) : s.handCarried.pair.handed = s.handCarried.carriedValues := by
  have hc := handCarried_changes s
  rw [handCarried_handed, carriedValues_same (sameRoom_of_changes hc) (congrArg Light.policy hc.light)
    (sameValue_of_changes hc _) (sameValue_of_changes hc _)]

theorem blindsSet_reshade (s : State) : BlindsSet s.reshade := ⟨reshade_held s, handed_handCarried s.decideTargets⟩

/-- Once the lights are set, what leaves what they read keeps them so. -/
theorem lightsSet_of_changes {ps : List Part} {s t : State} (h : LightsSet s) (hc : Changes ps s t)
    (hp : ∀ p ∈ viewInputs, p ∉ ps := by decide) (hl : .light ∉ ps := by decide) (ho : .overrideRecords ∉ ps := by decide) :
    LightsSet t :=
  lightsSet_same h (sameRoom_of_changes hc hp) (sameLights_of_light (hc.light hl)) (sameValue_of_changes hc _ ho)
    (sameValue_of_changes hc _ ho)

theorem viewsOk_set {s : State} (hlights : LightsSet s) (hblinds : BlindsSet s) : ViewsOk s :=
  viewsOk_iff.mpr fun _ => ⟨hlights, hblinds⟩

/-- Lights and blinds both decided afresh follow the room, whatever they held. -/
theorem viewsOk_relightAndShade (s : State) : ViewsOk s.relightAndShade :=
  viewsOk_set (lightsSet_of_changes (lightsSet_relight s) (reshade_changes _)) (blindsSet_reshade _)

end Sys2Proof.Machine.RoomProofs
end

section
/-! SUPPORT. The override records, life-safety and the end of a handling keep the lights and the blinds to the room. -/

namespace Sys2Proof.Machine.RoomProofs
open Sys2Proof.Machine.EvidenceProofs

/-! ### The override records -/

theorem sameValue_putRecord {s : State} {q q' : Quantity} (r : Option OverrideRecord) (h : q' ≠ q) :
    SameValue s (s.putRecord q r) q' :=
  congrArg (Option.map OverrideRecord.value) (PerQuantity.get_set_other s.overrides.records r h)

theorem putRecord_changes (s : State) (q : Quantity) (r : Option OverrideRecord) : Changes [.overrideRecords] s (s.putRecord q r) :=
  State.putRecord_changes (.refl _ _) _ _ rfl

theorem putRecord_room (s : State) (q : Quantity) (r : Option OverrideRecord) : SameRoom s (s.putRecord q r) :=
  sameRoom_of_changes (putRecord_changes s q r)

/-- A LIGHT_SCENE, LIGHT_LEVEL or BLINDS record that changes is taken by the readers that use it; no reader of the lights and
the blinds uses another. -/
theorem viewsOk_putRecord {s : State} (h : ViewsOk s) (q : Quantity) (r : Option OverrideRecord) :
    ViewsOk ((s.putRecord q r).handToReader q) := by
  have hroom := putRecord_room s q r
  have hc := putRecord_changes s q r
  have hair : q = .airBoost ∨ q = .holdVacant → ViewsOk (s.putRecord q r).evaluate := fun hq => by
    refine viewsOk_beside ?_ (evaluate_changes _).mono
    refine viewsOk_iff.mpr fun hr => ?_
    obtain ⟨hlights, hblinds⟩ := viewsOk_iff.mp h ((isRunning_congr hc.phase).symm.trans hr)
    have hne : ∀ q', q' = .lightScene ∨ q' = .lightLevel ∨ q' = .blinds → SameValue s (s.putRecord q r) q' := fun q' hq' =>
      sameValue_putRecord r (by rintro rfl; revert hq'; rcases hq with rfl | rfl <;> decide)
    have hscene := hne _ (.inl rfl)
    have hlevel := hne _ (.inr (.inl rfl))
    refine ⟨lightsSet_same hlights hroom (sameLights_of_light hc.light) hscene hlevel, fun b => ?_, ?_⟩
    · rw [hc.shade_held, bankTarget_same hroom rfl (hne _ (.inr (.inr rfl))), hblinds.held]
    · rw [hc.pair_handed, carriedValues_same hroom rfl hscene hlevel, hblinds.handed]
  cases q with
  | lightScene => exact viewsOk_relightAndShade _
  | lightLevel =>
    let u := s.putRecord .lightLevel r
    have hhand := handCarried_changes u.relight
    have hrelit := relight_changes u
    refine viewsOk_iff.mpr fun hr => ?_
    have hrun : s.isRunning = true := by
      rw [← hr]
      exact (isRunning_congr ((hhand.phase).trans ((hrelit.phase).trans hc.phase))).symm
    obtain ⟨hlights, hblinds⟩ := viewsOk_iff.mp h hrun
    have hpolicy : u.relight.handCarried.light.policy = s.light.policy := by
      rw [hhand.light, relight_light, activeScene_same hroom (sameValue_putRecord r (by decide)), ← hlights.fields.2.2]
    have hall : SameRoom s u.relight.handCarried :=
      sameRoom_trans hroom (sameRoom_trans (sameRoom_of_changes hrelit) (sameRoom_of_changes hhand))
    have hrecord : SameValue s u.relight.handCarried .blinds := by
      unfold SameValue
      rw [hhand.overrides_records, hrelit.overrides_records]
      exact sameValue_putRecord r (by decide)
    refine ⟨lightsSet_of_changes (lightsSet_relight u) hhand, fun b => ?_, handed_handCarried _⟩
    show u.relight.handCarried.shade.held.get b = _
    rw [hhand.shade_held, hrelit.shade_held, hc.shade_held, hblinds.held]
    exact (bankTarget_same hall hpolicy hrecord b).symm
  | blinds =>
    refine viewsOk_iff.mpr fun hr => ?_
    have hshade := reshade_changes (s.putRecord .blinds r)
    have hrun : s.isRunning = true := by
      rw [← hr]
      exact (isRunning_congr ((hshade.phase).trans hc.phase)).symm
    refine ⟨?_, blindsSet_reshade _⟩
    refine lightsSet_of_changes ?_ hshade
    exact lightsSet_same (viewsOk_iff.mp h hrun).1 hroom (sameLights_of_light hc.light) (sameValue_putRecord r (by decide))
      (sameValue_putRecord r (by decide))
  | airBoost => exact hair (.inl rfl)
  | holdVacant => exact hair (.inr rfl)

theorem viewsOk_removeRecord {s : State} (h : ViewsOk s) (q : Quantity) : ViewsOk (s.removeRecord q) := by
  unfold State.removeRecord
  split
  · exact viewsOk_putRecord h q none
  · exact h

/-- A fold of an operation that keeps a property keeps it. -/
theorem foldl_keeps {α : Type} {P : State → Prop} {f : State → α → State} (hf : ∀ s a, P s → P (f s a)) :
    ∀ (l : List α) (s : State), P s → P (l.foldl f s)
  | [], _, h => h
  | a :: l, s, h => foldl_keeps hf l _ (hf s a h)

theorem viewsOk_removeWhere {s : State} (h : ViewsOk s) (p : OverrideRecord → Bool) : ViewsOk (s.removeWhere p) := by
  refine foldl_keeps (fun u q hu => ?_) _ _ h
  unfold State.removeRecordIf
  split
  · exact viewsOk_removeRecord hu q
  · exact hu

theorem viewsOk_latchEvent {s : State} (h : ViewsOk s) (d : Detail) : ViewsOk (s.latchEvent d) :=
  viewsOk_beside h (State.latchEvent_changes (.refl _ _) d rfl)

theorem viewsOk_queueReport {s : State} (h : ViewsOk s) (k : ReportKind) : ViewsOk (s.queueReport k) :=
  viewsOk_beside h (State.queueReport_changes (.refl _ _) k rfl)

theorem viewsOk_takeRequest {s : State} (h : ViewsOk s) (r : Request) : ViewsOk (s.takeRequest r) := by
  unfold State.takeRequest
  repeat' split
  · exact viewsOk_latchEvent h _
  · exact viewsOk_removeRecord h _
  · exact viewsOk_putRecord h _ _

/-- Records changed in place but for their values. -/
theorem viewsKept_mapHeld (s : State) {f : OverrideRecord → OverrideRecord} (hf : ∀ r, (f r).value = r.value) :
    ViewsKept s (s.modOverrides fun o => { o with records := o.records.mapHeld f }) where
  running := rfl
  room := ⟨rfl, rfl, rfl, rfl, rfl, rfl, fun _ _ => rfl, fun _ => rfl⟩
  values q := by
    have hmap : ∀ o : Option OverrideRecord, (o.map f).map (·.value) = o.map (·.value) := fun o => by
      cases o <;> simp [hf]
    cases q <;> exact hmap _
  lights := sameLights_of_light rfl
  held := rfl
  handed := rfl

theorem viewsOk_markStale {s : State} (h : ViewsOk s) : ViewsOk s.markStale :=
  viewsOk_kept h (viewsKept_mapHeld s fun r => by unfold markStaleRecord; split <;> rfl)

/-! ### The end of a handling -/

/-- From the first state to the second, what the lights and the blinds read of the current record and of an overrun's stands; a
joined follower reads neither. -/
structure RecordSeen (s t : State) : Prop where
  overrun : s.isFollower = false → s.room.occupancy = .overrun → t.room.overrunScene = s.room.overrunScene
  current : s.isFollower = false → t.currentRecord.map lit = s.currentRecord.map lit

/-- The parts that the core of a handling may change, the pair's aside. -/
abbrev besideHeld : List Part := [.records, .occupancy] ++ besideViews

theorem viewsKept_of_seen {s t : State} (hc : Changes besideHeld s t) (ho : t.room.occupancy = s.room.occupancy)
    (hseen : RecordSeen s t) : ViewsKept s t where
  running := isRunning_congr hc.phase
  room :=
    { cfg := hc.cfg, follower := isFollower_congr hc.pair_state, mirror := hc.pair_mirror
      safety := lifeSafetyActive_congr hc.overrides_lifeSafety, glare := hc.shade_glare, occupancy := ho
      overrun := hseen.overrun, current := hseen.current }
  values q := sameValue_of_changes hc q
  lights := sameLights_of_light hc.light
  held := hc.shade_held
  handed := hc.pair_handed

theorem viewsOk_handSwitch {s : State} (h : ViewsOk s) : ViewsOk s.handSwitch := by
  unfold State.handSwitch
  split
  · exact viewsOk_beside (viewsOk_markStale h) (State.modRoom_changes (.refl _ _) _ (.inr fun _ => ⟨rfl, rfl, rfl, rfl, rfl⟩)
      (.inl rfl))
  · exact h

theorem viewsOk_dropStaleIfEmpty {s : State} (h : ViewsOk s) : ViewsOk s.dropStaleIfEmpty := by
  unfold State.dropStaleIfEmpty
  split
  · exact viewsOk_removeWhere h _
  · exact viewsOk_removeWhere h _
  · exact h

/-- What is reported once the readers have taken a changed state (R139, R180) leaves the lights and the blinds. -/
theorem viewsOk_reported {s : State} (h : ViewsOk s) (o : Occupancy) :
    ViewsOk (let s2 := if s.isLead then s.queueReport .pairState else s
      if s2.room.occupancy = o then s2 else s2.queueReport .roomStatus) := by
  dsimp only
  repeat' split
  · exact viewsOk_queueReport h _
  · exact viewsOk_queueReport (viewsOk_queueReport h _) _
  · exact h
  · exact viewsOk_queueReport h _

/-- The end of a handling (R66): a changed state or session id reaches the lights and the blinds, and where neither has changed
there is nothing in the room that they have not taken. -/
theorem viewsOk_handOff {s u : State} (h : ViewsOk s) (hc : Changes besideHeld s u)
    (hseen : u.observed = s.observed → RecordSeen s u) : ViewsOk (u.handOff s.observed) := by
  have hobserved : u.handSwitch.observed = u.observed := observed_of_changes (handSwitch_changes u)
  by_cases hsame : u.observed = s.observed
  · have hoff : u.handOff s.observed = u.handSwitch := if_pos (hobserved.trans hsame)
    rw [hoff]
    exact viewsOk_handSwitch (viewsOk_kept h (viewsKept_of_seen hc (congrArg Prod.fst hsame) (hseen hsame)))
  · have hread := viewsOk_dropStaleIfEmpty (viewsOk_relightAndShade u.handSwitch.evaluate)
    unfold State.handOff
    dsimp only
    rw [if_neg (by rwa [hobserved])]
    exact viewsOk_reported hread _

/-- Where state and session id have not changed, the record seen is the one of the unchanged mark. -/
theorem recordSeen_of_observed {s u : State} (hstate : u.pair.state = s.pair.state) (hobserved : u.observed = s.observed)
    (hrecord : ∀ id, s.isFollower = false → s.room.current = some id → (u.recordOf id).map lit = (s.recordOf id).map lit)
    (hoverrun : u.room.occupancy = .overrun → u.room.overrunScene = s.room.overrunScene) : RecordSeen s u where
  overrun _ ho := hoverrun ((congrArg Prod.fst hobserved).trans ho)
  current hf := by
    have hid : u.room.current = s.room.current := by
      have h := congrArg Prod.snd hobserved
      simpa [State.observed, State.sessionId, isFollower_congr hstate, hf] using h
    unfold State.currentRecord
    rw [hid]
    cases hcurrent : s.room.current with
    | none => rfl
    | some id => exact hrecord id hf hcurrent

/-- What a handling's core may do beside the lights and the blinds: it leaves the parts of others, and where the state and the session
id stay, so does what they read of the records. -/
structure Core (s u : State) : Prop where
  changes : Changes besideHeld s u
  seen : u.observed = s.observed → RecordSeen s u

/-- A core that leaves the records, and the overrun's scene where it leaves OVERRUN. -/
theorem core_of_room {s u : State} (hc : Changes (.occupancy :: besideViews) s u)
    (hoverrun : u.room.occupancy = .overrun → u.room.overrunScene = s.room.overrunScene) : Core s u :=
  ⟨hc.mono, fun ho => recordSeen_of_observed hc.pair_state ho (fun id _ _ => by rw [recordOf_congr hc.sessions_records]) hoverrun⟩

theorem core_refl (s : State) : Core s s := core_of_room (.refl _ _) fun _ => rfl

theorem viewsOk_handle {s : State} (h : ViewsOk s) {core : State → State} (hcore : Core s (core s)) : ViewsOk (s.handle core) :=
  viewsOk_handOff h hcore.changes hcore.seen

theorem roomVacancy_core (s : State) : Core s s.roomVacancy := by
  refine core_of_room (roomVacancy_changes s).mono ?_
  have hl : ∀ (u : State) (d : Detail), (u.latchEvent d).room = u.room := latchEvent_room
  unfold State.roomVacancy
  repeat' split
  · exact fun _ => rfl
  · rw [hl]; exact fun _ => rfl
  · exact fun _ => rfl
  · exact fun h => by cases h
  · exact fun _ => rfl
  · exact fun _ => rfl

theorem viewsOk_declareVacancy {s : State} (h : ViewsOk s) : ViewsOk s.declareVacancy := by
  refine viewsOk_handle (s := (s.setHeadcount 0).clearHistory) (viewsOk_beside h ?_) (roomVacancy_core _)
  exact State.clearHistory_changes (State.setHeadcount_changes (.refl _ _) 0 rfl) rfl

theorem viewsOk_deferredTest {s : State} (h : ViewsOk s) : ViewsOk s.deferredTest := by
  unfold State.deferredTest
  repeat' split
  · exact h
  · exact viewsOk_declareVacancy h
  · exact viewsOk_declareVacancy h
  · exact h

theorem viewsOk_handling {s : State} (h : ViewsOk s) {core : State → State} (hcore : Core s (core s)) :
    ViewsOk (s.handling core) := by
  unfold State.handling
  dsimp only
  split
  · exact viewsOk_deferredTest (viewsOk_handle h hcore)
  · exact viewsOk_handle h hcore

end Sys2Proof.Machine.RoomProofs
end

section
/-! SUPPORT. Compare points, retirements and the clock keep the lights and the blinds to the room. -/

namespace Sys2Proof.Machine.RoomProofs
open Sys2Proof.Machine.EvidenceProofs

/-! ### Cores that move the room -/

theorem core_of_follower {s u : State} (hf : s.isFollower = true) (hc : Changes besideHeld s u) : Core s u :=
  ⟨hc, fun _ => ⟨fun h => absurd (hf.symm.trans h) (by decide), fun h => absurd (hf.symm.trans h) (by decide)⟩⟩

/-- Another current record is another session id, but at a joined follower, which reads none. -/
theorem core_of_current {s u : State} (hc : Changes besideHeld s u) (hne : u.room.current ≠ s.room.current) : Core s u := by
  cases hf : s.isFollower with
  | true => exact core_of_follower hf hc
  | false =>
    refine ⟨hc, fun ho => absurd ?_ hne⟩
    simpa [State.observed, State.sessionId, isFollower_congr hc.pair_state, hf] using congrArg Prod.snd ho

theorem core_of_occupancy {s u : State} (hc : Changes besideHeld s u) (hne : u.room.occupancy ≠ s.room.occupancy) : Core s u :=
  ⟨hc, fun ho => absurd (congrArg Prod.fst ho) hne⟩

/-- A core that leaves the room and what the lights and the blinds read of the current record. -/
theorem core_of_records {s u : State} (hc : Changes (.records :: besideViews) s u)
    (hrecord : ∀ id, s.isFollower = false → s.room.current = some id → (u.recordOf id).map lit = (s.recordOf id).map lit) :
    Core s u :=
  ⟨hc.mono, fun ho => recordSeen_of_observed hc.pair_state ho hrecord fun _ => hc.room_overrunScene⟩

theorem viewsOk_core_of_records {s u : State} (h : ViewsOk s) (hc : Changes (.records :: besideViews) s u)
    (hrecord : ∀ id, s.isFollower = false → s.room.current = some id → (u.recordOf id).map lit = (s.recordOf id).map lit) :
    ViewsOk u := by
  have hobserved : u.observed = s.observed := observed_of_changes hc
  exact viewsOk_kept h (viewsKept_of_seen hc.mono hc.room_occupancy ((core_of_records hc hrecord).seen hobserved))

/-! ### Records marked and removed -/

/-- Records changed in place but for their ids and for what the lights and the blinds read. -/
theorem recordOf_modRecords_map (s : State) {f : Session → Session} (hid : ∀ r, (f r).id = r.id) (hlit : ∀ r, lit (f r) = lit r)
    (id : Nat) : ((s.modRecords (·.map f)).recordOf id).map lit = (s.recordOf id).map lit := by
  show (List.find? _ (s.sessions.records.map f)).map lit = (s.sessions.records.find? _).map lit
  rw [List.find?_map, Option.map_map]
  have hp : ((fun r : Session => decide (r.id = id)) ∘ f) = fun r => decide (r.id = id) := funext fun r => by simp [hid]
  rw [hp]
  exact congrArg (fun g => Option.map g _) (funext hlit)

theorem mark_id (r : Session) (p : Point) : (r.mark p).id = r.id := by cases p <;> rfl

theorem mark_lit (r : Session) (p : Point) : lit (r.mark p) = lit r := by cases p <;> rfl

theorem recordOf_mark (s : State) (p : Point) (id id' : Nat) :
    ((s.modRecordOf id (·.mark p)).recordOf id').map lit = (s.recordOf id').map lit :=
  recordOf_modRecords_map s (fun r => by split; exacts [mark_id r p, rfl]) (fun r => by split; exacts [mark_lit r p, rfl]) id'

/-- Records of a kept id stay to be found by it. -/
theorem recordOf_filter (s : State) {keep : Session → Bool} {id : Nat} (h : ∀ r, r.id = id → keep r = true) :
    (s.modRecords (·.filter keep)).recordOf id = s.recordOf id := by
  show List.find? _ (s.sessions.records.filter _) = s.sessions.records.find? _
  rw [List.find?_filter]
  congr 1
  funext r
  by_cases hr : r.id = id
  · simp [hr, h r hr]
  · simp [hr]

theorem recordOf_removeSession (s : State) {id id' : Nat} (h : id' ≠ id) :
    (s.removeSession id).recordOf id' = s.recordOf id' :=
  recordOf_filter s fun r hr => by simpa [hr] using h

theorem viewsOk_mark {s : State} (h : ViewsOk s) (id : Nat) (p : Point) : ViewsOk (s.modRecordOf id (·.mark p)) :=
  viewsOk_core_of_records h (State.modRecordOf_changes (.refl _ _) _ _ rfl) fun _ _ _ => recordOf_mark s p _ _

theorem viewsOk_markAllAfresh {s : State} (h : ViewsOk s) : ViewsOk s.markAllAfresh :=
  viewsOk_core_of_records h (State.markAllAfresh_changes (.refl _ _) rfl) fun _ _ _ =>
    recordOf_modRecords_map s (f := Session.markAfresh s.clock.minute) (fun _ => rfl) (fun _ => rfl) _

/-- A record that is not current leaves the table. -/
theorem removeSession_core (s : State) {id : Nat} (h : s.room.current ≠ some id) : Core s (s.removeSession id) :=
  core_of_records (State.removeSession_changes (.refl _ _) _ rfl) fun id' _ hid => by
    rw [recordOf_removeSession s (by rintro rfl; exact h hid)]

/-! ### A retirement (R51) -/

/-- The successor that becomes current is held. -/
theorem successor_held {s : State} {id : Nat} (h : s.successor = .begun id ∨ s.successor = .upcoming id) :
    ∃ x ∈ s.sessions.records, x.id = id := by
  unfold State.successor at h
  split at h
  next r hr =>
    have hmem : r ∈ s.sessions.records := List.mem_of_find?_eq_some hr
    refine ⟨r, hmem, ?_⟩
    split at h
    · simpa using h
    · split at h
      · simpa using h
      · split at h <;> simp at h
  next => split at h <;> simp at h

theorem succeed_current {s : State} (r : Session) (hnone : s.room.current = none) :
    ∀ id, (s.succeed r s.successor).room.current = some id → ∃ x ∈ s.sessions.records, x.id = id := by
  intro id h
  cases hsucc : s.successor with
  | begun id' =>
    rw [hsucc, State.succeed, latchEvent_room] at h
    cases h
    exact successor_held (.inl hsucc)
  | upcoming id' =>
    rw [hsucc] at h
    cases h
    exact successor_held (.inr hsucc)
  | overrun =>
    rw [hsucc, State.succeed, State.enterOverrun, latchEvent_room] at h
    exact absurd (hnone.symm.trans h) (by simp)
  | vacant =>
    rw [hsucc] at h
    exact absurd (hnone.symm.trans h) (by simp)

/-- The retired record is current no longer. -/
theorem retire_current {s : State} {r : Session} (hr : s.currentRecord = some r) (atEnd : Bool) :
    (s.retire atEnd).room.current ≠ s.room.current := by
  let u := (s.removeSession r.id).releaseMark
  have hcurrent : s.room.current = some r.id := (currentRecord_eq hr).2
  have heq : s.retire atEnd =
      ((u.succeed r u.successor).latchEvent (.sessionEnd r.id (atEnd && u.successor = .overrun))).raiseSwitch.markCurrentPassed := by
    unfold State.retire
    rw [hr]
  have hc : Changes [.queue, .latches, .switchMarker, .records] (u.succeed r u.successor) (s.retire atEnd) := by
    rw [heq]
    exact State.markCurrentPassed_changes (State.raiseSwitch_changes (State.latchEvent_changes (.refl _ _) _ rfl) rfl) rfl
  rw [hc.room_current, hcurrent]
  intro h
  obtain ⟨x, hx, hid⟩ := succeed_current r rfl _ h
  exact absurd hid (by simpa using (List.mem_filter.mp hx).2)

theorem retire_core (s : State) (atEnd : Bool) : Core s (s.retire atEnd) := by
  cases hr : s.currentRecord with
  | none =>
    have hstands : s.retire atEnd = s := by
      unfold State.retire
      rw [hr]
    rw [hstands]
    exact core_refl s
  | some r => exact core_of_current (State.retire_changes (.refl _ _) _ rfl) (retire_current hr atEnd)

/-! ### Compare points (R47 to R50) -/

theorem deliverA_core (s : State) (id : Nat) : Core s (s.deliverA id) := by
  unfold State.deliverA
  split
  · exact core_refl s
  next h =>
    have hfollow : ∀ o, Core s (s.follow id o) := fun o =>
      core_of_current (State.follow_changes (.refl _ _) _ _ rfl) fun heq => h (by simp [← heq, State.follow])
    split
    · exact hfollow _
    · exact hfollow _
    · exact hfollow _
    · exact retire_core s false
    · exact core_refl s
    · exact core_refl s
    · exact core_refl s

/-- A session that begins changes nothing that the lights and the blinds read. -/
theorem beginSession_room (s : State) (id : Nat) :
    (s.beginSession id).room = { s.room with switchMarker := true } := by
  show ({ (s.latchEvent _).room with switchMarker := true } : Room) = _
  rw [latchEvent_room]

theorem deliverB_core (s : State) (id : Nat) : Core s (s.deliverB id) := by
  have hc : Changes besideHeld s (s.deliverB id) := State.deliverB_changes (.refl _ _) _ rfl
  unfold State.deliverB at hc ⊢
  split
  · exact core_refl s
  next hf =>
    rw [if_neg hf] at hc
    split
    next hcurrent =>
      rw [if_pos hcurrent] at hc
      split
      next ho =>
        rw [if_pos ho] at hc
        refine core_of_occupancy hc ?_
        rw [beginSession_room, ho]
        show Occupancy.expected ≠ .precondition
        decide
      next ho =>
        refine core_of_room (State.beginSession_changes (.refl _ _) _ rfl) fun _ => ?_
        rw [beginSession_room]
    next hcurrent =>
      rw [if_neg hcurrent] at hc
      have hbegin : ∀ o, Core s (((s.modRecordOf id (·.mark .pointA)).follow id o).beginSession id) := fun o => by
        refine core_of_current ?_ ?_
        · exact State.beginSession_changes (State.follow_changes (State.modRecordOf_changes (.refl _ _) _ _ rfl) _ _ rfl) _ rfl
        · rw [beginSession_room]
          exact fun heq => hcurrent heq.symm
      split
      · exact hbegin _
      · exact hbegin _
      · exact hbegin _
      · exact core_refl s

theorem deliverG_core (s : State) (id : Nat) : Core s (s.deliverG id) := by
  unfold State.deliverG
  split
  next h =>
    refine core_of_occupancy (State.latchEvent_changes (State.setOccupancy_changes (.refl _ _) _ rfl) _ rfl) ?_
    rw [latchEvent_room, h.2]
    show Occupancy.released ≠ .expected
    decide
  next => exact core_refl s

theorem deliverCore_core (s : State) (p : Point) (id : Nat) : Core s (s.deliverCore p id) := by
  cases p with
  | pointA => exact deliverA_core s id
  | pointB => exact deliverB_core s id
  | pointG => exact deliverG_core s id
  | pointE =>
    show Core s (s.deliverE id)
    unfold State.deliverE
    split
    · exact retire_core s true
    next h => exact removeSession_core s h

theorem viewsOk_deliver {s : State} (h : ViewsOk s) (p : Point) (id : Nat) : ViewsOk (s.deliver p id) :=
  viewsOk_handling (viewsOk_mark h id p) (deliverCore_core _ p id)

/-! ### What deliveries keep, arming and minutes keep -/

section Delivered
variable {P : State → Prop} (hdeliver : ∀ s p id, P s → P (s.deliver p id))
  (hmark : ∀ s id, P s → P (s.modRecordOf id (·.mark .pointA)))
include hdeliver

theorem lateDeliver_keeps {after : State → State} (ha : ∀ s, P s → P (after s)) {s : State} (h : P s) (p : Point) (id : Nat) :
    P (s.lateDeliver p id after) := by
  unfold State.lateDeliver
  split
  · exact ha _ (hdeliver _ _ _ h)
  · exact h

include hmark

theorem lateDeliverAB_keeps {after : State → State} (ha : ∀ s, P s → P (after s)) {s : State} (h : P s) (id : Nat) :
    P (s.lateDeliverAB id after) := by
  unfold State.lateDeliverAB
  split
  · exact ha _ (hdeliver _ _ _ (hmark _ _ h))
  · exact lateDeliver_keeps hdeliver ha (lateDeliver_keeps hdeliver ha h _ _) _ _

theorem armLevels_keeps : ∀ (n : Nat) (s : State), P s → P (armLevels n s)
  | 0, _, h => h
  | n + 1, s, h => by
    unfold armLevels
    repeat' split
    · exact h
    · exact h
    · exact lateDeliver_keeps hdeliver (armLevels_keeps n) (lateDeliverAB_keeps hdeliver hmark (armLevels_keeps n) h _) _ _

theorem armNext_keeps {s : State} (h : P s) : P s.armNext := armLevels_keeps hdeliver hmark 17 s h

theorem takeTurns_keeps : ∀ (n : Nat) (s : State), P s → P (takeTurns n s)
  | 0, _, h => h
  | n + 1, s, h => by
    unfold takeTurns
    split
    · exact h
    · exact takeTurns_keeps n _ (armNext_keeps hdeliver hmark (hdeliver _ _ _ h))

theorem takePoints_keeps {s : State} (h : P s) : P s.takePoints := by
  unfold State.takePoints
  split
  · exact takeTurns_keeps hdeliver hmark 64 s h
  · exact h

end Delivered

theorem viewsOk_armNext {s : State} (h : ViewsOk s) : ViewsOk s.armNext :=
  armNext_keeps (P := ViewsOk) (fun _ p id hu => viewsOk_deliver hu p id) (fun _ id hu => viewsOk_mark hu id _) h

/-! ### The clock (R1 to R6) -/

theorem viewsOk_expireRecords {s : State} (h : ViewsOk s) : ViewsOk s.expireRecords := viewsOk_removeWhere h _

theorem viewsOk_setMinute {s : State} (h : ViewsOk s) (m : Nat) : ViewsOk (s.setMinute m) :=
  viewsOk_beside h (State.setMinute_changes (.refl _ _) _ rfl)

theorem viewsOk_reachMinute {s : State} (h : ViewsOk s) (m : Nat) : ViewsOk (s.reachMinute m) :=
  viewsOk_expireRecords (takePoints_keeps (P := ViewsOk) (fun _ p id hu => viewsOk_deliver hu p id)
    (fun _ id hu => viewsOk_mark hu id _) (viewsOk_setMinute h m))

theorem viewsOk_reachMinutes : ∀ (n : Nat) (s : State), ViewsOk s → ViewsOk (State.reachMinutes n s)
  | 0, _, h => h
  | n + 1, _, h => viewsOk_reachMinutes n _ (viewsOk_reachMinute h _)

theorem viewsOk_minutePasses {s : State} (h : ViewsOk s) : ViewsOk s.minutePasses := by
  have hb : ViewsOk s.atBoundary := viewsOk_beside h (State.atBoundary_changes (.refl _ _) rfl)
  unfold State.minutePasses State.advanceMinute
  repeat' split
  · exact viewsOk_reachMinute hb _
  · exact viewsOk_setMinute hb _
  · exact viewsOk_beside hb (State.passMinute_changes (.refl _ _) rfl)
  · exact h

/-- The state that derivation gives (R59). -/
def derivedState (s : State) : Occupancy :=
  if s.clock.timeValid then derivedOccupancy s.clock.minute s.sessions.records.head? s.fresh
  else if s.fresh then .adhoc else .vacant

theorem derivedFor_eq {s : State} {r : Session} (h : ¬ s.clock.minute < r.minuteOf .pointA) :
    s.derivedFor r = derivedOccupancy s.clock.minute (some r) s.fresh := by
  have hlead : ¬ s.clock.minute < r.start - r.lead := h
  unfold State.derivedFor State.occupiedOr derivedOccupancy
  simp only [Session.minuteOf, if_neg hlead]
  cases s.fresh with
  | true => simp
  | false =>
    by_cases hstart : s.clock.minute < r.start
    · simp [hstart, Nat.not_le.mpr hstart]
    · simp only [hstart, Nat.not_lt.mp hstart, if_true, if_false, Bool.false_eq_true]
      congr

theorem derivedFor_hasRecord (s : State) (r : Session) : (s.derivedFor r).hasRecord = true := by
  unfold State.derivedFor State.occupiedOr
  repeat' split
  all_goals rfl

/-- What derivation leaves of the room (R59): its state, the earliest record as the current one in a state that has one, and no
overrun. -/
theorem derive_room (s : State) :
    s.derive.room =
      { s.room with
        occupancy := derivedState s, overrunScene := none, overrunDue := none
        current := if (derivedState s).hasRecord then s.sessions.records.head?.map (·.id) else none } := by
  have hempty : ∀ o : Occupancy, o = (if s.fresh then .adhoc else .vacant) → derivedState s = o →
      (s.releaseMark.clearOverrun.setOccupancy o).room =
        { s.room with
          occupancy := derivedState s, overrunScene := none, overrunDue := none
          current := if (derivedState s).hasRecord then s.sessions.records.head?.map (·.id) else none } := by
    rintro o ho hd
    have hrecord : (derivedState s).hasRecord = false := by
      rw [hd, ho]
      split <;> rfl
    rw [hrecord, hd]
    rfl
  unfold State.derive
  dsimp only
  split
  next hclock =>
    have hclock : s.clock.timeValid = false := by
      rw [Bool.not_eq_true'] at hclock
      exact hclock
    refine hempty _ rfl ?_
    rw [derivedState, if_neg (by simp [hclock])]
    rfl
  next hclock =>
    have hclock : s.clock.timeValid = true := by
      rw [Bool.not_eq_true', Bool.not_eq_false] at hclock
      exact hclock
    have hd : derivedState s = derivedOccupancy s.clock.minute s.sessions.records.head? s.fresh := if_pos hclock
    split
    next hnone =>
      refine hempty _ rfl (hd.trans ?_)
      rw [show s.sessions.records.head? = none from hnone]
      rfl
    next r hr =>
      have hr : s.sessions.records.head? = some r := hr
      rw [hr] at hd
      split
      next hearly =>
        refine hempty _ rfl (hd.trans ?_)
        have hearly : s.clock.minute < r.start - r.lead := hearly
        simp only [derivedOccupancy, if_pos hearly]
        rfl
      next hlate =>
        rw [hd, ← derivedFor_eq (s := s) hlate, derivedFor_hasRecord, hr]
        rfl

/-- Derivation never gives OVERRUN (R59). -/
theorem derive_ne_overrun (s : State) : s.derive.room.occupancy ≠ .overrun := by
  rw [derive_room]
  show derivedState s ≠ .overrun
  unfold derivedState derivedOccupancy
  repeat' split
  all_goals decide

theorem derive_core (s : State) : Core s s.derive :=
  core_of_room (State.derive_changes (.refl _ _) rfl) fun h => absurd h (derive_ne_overrun s)

/-- While the clock is invalid no record is current, but at a joined follower, which reads none: the records may go (R5, R58). -/
theorem viewsOk_dropEnded {s : State} (h : ViewsOk s) (hnone : s.isFollower = false → s.room.current = none) :
    ViewsOk s.dropEnded :=
  viewsOk_core_of_records h (State.dropEnded_changes (.refl _ _) rfl) fun id hf hid => by
    rw [hnone hf] at hid
    cases hid

theorem viewsOk_firstValidTime {s : State} (h : ViewsOk s) (hnone : s.isFollower = false → s.room.current = none) (m : Nat) :
    ViewsOk (s.firstValidTime m) := by
  have hset : ViewsOk ((s.setMinute m).modClock fun c => { c with timeValid := true }) :=
    viewsOk_beside (viewsOk_setMinute h m) (State.modClock_changes (.refl _ _) _ rfl)
  have hdrop := viewsOk_markAllAfresh (viewsOk_dropEnded hset hnone)
  refine viewsOk_expireRecords ?_
  split
  · exact hdrop
  · exact viewsOk_handling hdrop (derive_core _)

/-- What the clock and the Session Table need of the room's consistency (R46, R58): the current record is the earliest held one, its
state is one of those with a record, and there is none while the clock is invalid. -/
structure MarkOk (s : State) : Prop where
  earliest : ∀ id, s.room.current = some id → s.sessions.records.head?.map (·.id) = some id
  stated : s.room.current ≠ none → s.room.occupancy.hasRecord = true
  timed : s.clock.timeValid = false → s.isFollower = false → s.room.current = none

theorem markOk_of_roomOk {s : State} (h : RoomOk s) : MarkOk s where
  earliest := h.earliest
  stated hcurrent := by
    have hmarked := h.marked
    rw [Option.isSome_iff_ne_none.mpr hcurrent] at hmarked
    simp_all
  timed hclock hf := by
    have hmarked := h.marked
    rw [← Option.not_isSome_iff_eq_none, hmarked]
    rcases h.timeless hclock hf with ho | ho <;> simp [ho, Occupancy.hasRecord]

theorem markOk_of_changes {ps : List Part} {s t : State} (h : MarkOk s) (hc : Changes ps s t) (ho : .occupancy ∉ ps := by decide)
    (hr : .records ∉ ps := by decide) (hv : t.clock.timeValid = s.clock.timeValid) (hp : .pairState ∉ ps := by decide) :
    MarkOk t where
  earliest := by rw [hc.room_current ho, hc.sessions_records hr]; exact h.earliest
  stated := by rw [hc.room_current ho, hc.room_occupancy ho]; exact h.stated
  timed := by rw [hv, hc.room_current ho, isFollower_congr (hc.pair_state hp)]; exact h.timed

theorem viewsOk_takeTime {s : State} (h : ViewsOk s) (hm : MarkOk s) (f : TimeFields) : ViewsOk (s.takeTime f) := by
  unfold State.takeTime State.setTime
  dsimp only
  obtain ⟨u, hu⟩ : ∃ u, u = s.modClock fun c => { c with boundaryDue := s.now + secs (60 - f.second) } := ⟨_, rfl⟩
  have hc : Changes [.clock] s u := hu ▸ State.modClock_changes (.refl _ _) _ rfl
  have hok : ViewsOk u := viewsOk_beside h hc.mono
  have hmark : MarkOk u := markOk_of_changes hm hc (hv := by rw [hu]; rfl)
  rw [← hu]
  repeat' split
  · exact h
  next hclock => exact viewsOk_firstValidTime hok (hmark.timed (by simpa using hclock)) _
  · exact viewsOk_reachMinutes _ _ hok
  · exact viewsOk_setMinute hok _

end Sys2Proof.Machine.RoomProofs
end

section
/-! SUPPORT. The merge of entries, evidence, the samples and the panel keep the lights and the blinds to the room. -/

namespace Sys2Proof.Machine.RoomProofs
open Sys2Proof.Machine.EvidenceProofs

/-! ### Records placed and removed (R16 to R23) -/

theorem find_insertSession {e : Session} {id : Nat} (h : e.id ≠ id) :
    ∀ l : List Session, (insertSession e l).find? (fun r => r.id = id) = l.find? (fun r => r.id = id)
  | [] => by simp [insertSession, h]
  | r :: l => by
    unfold insertSession
    split
    · exact List.find?_cons_of_neg (by simpa using h)
    · by_cases hr : r.id = id
      · simp [hr]
      · simp [hr, find_insertSession h l]

/-- From a full table the last record goes, which is never the earliest. -/
theorem head_of_evicted {r : Session} {l : List Session} (h : l.head? = some r) :
    (if 16 ≤ l.length then l.dropLast else l).head? = some r := by
  split
  next hfull =>
    match l, h, hfull with
    | r' :: r'' :: l, h, _ => exact h
  next => exact h

theorem find_of_head {l : List Session} {r : Session} (h : l.head? = some r) : l.find? (fun x => x.id = r.id) = some r := by
  match l, h with
  | r' :: l, h =>
    obtain rfl := Option.some.inj h
    simp

theorem recordOf_placeSession {s : State} {e r : Session} (h : s.sessions.records.head? = some r) (hne : e.id ≠ r.id) :
    (s.placeSession e).recordOf r.id = some r := by
  show (insertSession e _).find? _ = _
  rw [find_insertSession hne]
  exact find_of_head (head_of_evicted h)

/-- Another session's entry leaves the earliest record. -/
theorem recordOf_placeNew {s : State} {e r : Session} (h : s.sessions.records.head? = some r) (hne : e.id ≠ r.id) :
    ((s.removeSession e.id).placeNew e).recordOf r.id = some r := by
  have hhead : (s.removeSession e.id).sessions.records.head? = some r := by
    show (s.sessions.records.filter _).head? = _
    match s.sessions.records, h with
    | r' :: l, h =>
      obtain rfl := Option.some.inj h
      simp [hne.symm]
  unfold State.placeNew
  split
  · have hc : Changes [.queue, .latches] (s.removeSession e.id) ((s.removeSession e.id).refuseEntry e.id ‹_›) :=
      State.refuseEntry_changes (.refl _ _) _ _ rfl
    rw [recordOf_congr hc.sessions_records]
    exact find_of_head hhead
  · have hc : Changes [.transfer] ((s.removeSession e.id).placeSession e) ((s.removeSession e.id).placeSession e).countMerged :=
      State.countMerged_changes (.refl _ _) rfl
    rw [recordOf_congr hc.sessions_records]
    exact recordOf_placeSession hhead hne

theorem viewsOk_reevaluateMark (s : State) : ViewsOk s.reevaluateMark := viewsOk_relightAndShade _

/-- A new record, in place of one of its id: where the mark stands on that record the readers take it afresh, and otherwise the
current record stays (R17 to R20). -/
theorem viewsOk_mergeNew {s : State} (h : ViewsOk s) (hm : MarkOk s) {e : Session}
    (hmark : s.room.current = some e.id → s.room.occupancy = .precondition) : ViewsOk (s.mergeNew e) := by
  let u := (s.removeSession e.id).placeNew e
  have hc : Changes [.queue, .latches, .records, .transfer] s u :=
    State.placeNew_changes (State.removeSession_changes (.refl _ _) _ rfl) _ rfl
  refine viewsOk_armNext ?_
  split
  · exact viewsOk_reevaluateMark _
  next hstays =>
    refine viewsOk_core_of_records h hc.mono fun id _ hid => ?_
    obtain ⟨r, hr, rfl⟩ := Option.map_eq_some_iff.mp (hm.earliest id hid)
    have hne : e.id ≠ r.id := fun heq => by
      have hpre := hmark (by rw [hid, heq])
      refine hstays ?_
      unfold State.markMoved
      rw [hc.room_occupancy, hc.room_current, hpre, hid, heq]
      simp
    rw [recordOf_placeNew hr hne]
    exact congrArg (Option.map lit) (find_of_head hr).symm

theorem viewsOk_updateRunning {s : State} (h : ViewsOk s) (r e : Session) : ViewsOk (s.updateRunning r e) := by
  have hu : ViewsOk (s.applyUpdate r e).countMerged :=
    viewsOk_beside (viewsOk_relightAndShade _) (State.countMerged_changes (.refl _ _) rfl)
  unfold State.updateRunning
  dsimp only
  repeat' split
  · exact viewsOk_latchEvent h _
  · exact viewsOk_armNext (viewsOk_deliver (viewsOk_expireRecords hu) _ _)
  · exact hu

/-- A current record that does not run is that of PRECONDITION (R46). -/
theorem precondition_of_current {s : State} (hm : MarkOk s) {id : Nat} (hid : s.room.current = some id)
    (hruns : s.room.occupancy.runs = false) : s.room.occupancy = .precondition := by
  have honly : ∀ o : Occupancy, o.hasRecord = true → o.runs = false → o = .precondition := fun o => by
    cases o <;> simp [Occupancy.hasRecord, Occupancy.runs]
  exact honly _ (hm.stated (by rw [hid]; simp)) hruns

theorem viewsOk_mergeEntry {s : State} (h : ViewsOk s) (hm : MarkOk s) (f : TtEntryFields) : ViewsOk (s.mergeEntry f) := by
  unfold State.mergeEntry
  split
  · exact h
  · split
    · exact viewsOk_latchEvent h _
    next e _ =>
      split
      next r _ =>
        split
        · exact viewsOk_updateRunning h _ _
        next hnot =>
          refine viewsOk_mergeNew h hm fun hid => precondition_of_current hm hid ?_
          exact Bool.eq_false_iff.mpr fun hruns => hnot ⟨hid, hruns⟩
      next hnone =>
        refine viewsOk_mergeNew h hm fun hid => ?_
        obtain ⟨r, hr, hrid⟩ := Option.map_eq_some_iff.mp (hm.earliest _ hid)
        have hfound : s.recordOf e.id = some r := by
          rw [← hrid]
          exact find_of_head hr
        exact absurd (hnone.symm.trans hfound) (by simp)

theorem viewsOk_closeTransfer {s : State} (h : ViewsOk s) (reason : DoneReason) : ViewsOk (s.closeTransfer reason) :=
  viewsOk_beside h (State.closeTransfer_changes (.refl _ _) _ rfl)

theorem viewsOk_transferEntry {s : State} (h : ViewsOk s) (hm : MarkOk s) (source : Nat) (f : TtEntryFields) :
    ViewsOk (s.transferEntry source f) := by
  have hc : Changes [.transfer] s s.countEntry := State.countEntry_changes (.refl _ _) rfl
  unfold State.transferEntry
  repeat' split
  · exact h
  · exact h
  · exact h
  · exact viewsOk_closeTransfer h _
  · refine viewsOk_beside (viewsOk_mergeEntry (viewsOk_beside h hc.mono) ?_ f) (State.finishTransfer_changes (.refl _ _) rfl)
    exact markOk_of_changes hm hc (hv := congrArg Clock.timeValid hc.clock)

/-- REPLACE leaves the current record (R23); with the clock invalid there is none. -/
theorem viewsOk_replaceFuture {s : State} (h : ViewsOk s) (hm : MarkOk s) : ViewsOk s.replaceFuture := by
  refine viewsOk_core_of_records h (State.replaceFuture_changes (.refl _ _) rfl) fun id hf hid => ?_
  have hclock : s.clock.timeValid = true := by
    by_contra hinvalid
    rw [hm.timed (by simpa using hinvalid) hf] at hid
    cases hid
  unfold State.replaceFuture
  rw [recordOf_filter s fun r hr => by simp [hclock, hid, hr]]

theorem viewsOk_beginTransfer {s : State} (h : ViewsOk s) (hm : MarkOk s) (source : Nat) (f : TtBeginFields) :
    ViewsOk (s.beginTransfer source f) := by
  unfold State.beginTransfer
  dsimp only
  refine (?_ : ∀ u, Changes [.queue, .latches, .transfer] s u → ViewsOk (if f.replace then u.replaceFuture.armNext else u)) _
    (State.modSessions_changes (State.closeTransfer_changes (.refl _ _) _ rfl) _ (.inr fun _ => rfl) (.inl rfl))
  intro u hu
  have hok : ViewsOk u := viewsOk_beside h hu.mono
  split
  · exact viewsOk_armNext (viewsOk_replaceFuture hok (markOk_of_changes hm hu (hv := congrArg Clock.timeValid hu.clock)))
  · exact hok

theorem viewsOk_cancelSession {s : State} (h : ViewsOk s) (id : Nat) : ViewsOk (s.cancelSession id) := by
  unfold State.cancelSession
  repeat' split
  · exact h
  · exact viewsOk_armNext (viewsOk_handling h (retire_core _ _))
  next hne =>
    exact viewsOk_armNext (viewsOk_core_of_records h (State.removeSession_changes (.refl _ _) _ rfl) fun id' _ hid => by
      rw [recordOf_removeSession s (by rintro rfl; exact hne hid)])

/-! ### Evidence (R26 to R37, R53 to R57) -/

theorem roomEvidence_core (s : State) (c : Bool) : Core s (s.roomEvidence c) := by
  refine core_of_room (roomEvidence_changes s c).mono fun _ => ?_
  cases hf : s.isFollower with
  | true => rw [roomEvidence_follower hf]
  | false => rw [roomEvidence_room hf]

theorem viewsOk_evidenceEvent {s : State} (h : ViewsOk s) (k : EvidenceKind) : ViewsOk (s.evidenceEvent k) := by
  have hh : ViewsOk ((s.recordEvidence k).handling fun x => x.roomEvidence (s.confirms k)) :=
    viewsOk_handling (viewsOk_beside h (recordEvidence_changes s k).mono) (roomEvidence_core _ _)
  unfold State.evidenceEvent
  dsimp only
  split
  · exact viewsOk_beside hh (reportEvidence_changes _).mono
  · exact hh

theorem viewsOk_takeBreak {s : State} (h : ViewsOk s) (b : Beam) : ViewsOk (s.takeBreak b) := by
  have hw : ∀ w, ViewsOk (s.setWindow w) := fun w => viewsOk_beside h (State.setWindow_changes (.refl _ _) w rfl)
  unfold State.takeBreak
  repeat' split
  · exact h
  · exact viewsOk_evidenceEvent h _
  · exact hw _
  · exact viewsOk_evidenceEvent (hw _) _
  · rw [pairedBreak_eq]
    exact viewsOk_evidenceEvent (viewsOk_beside (hw _) (setHeadcount_changes _ _).mono) _

theorem viewsOk_markStuck {s : State} (h : ViewsOk s) (b : Beam) : ViewsOk (s.markStuck b) := by
  have hm : ViewsOk ((s.setStuckDue b none).setStuckMark b true) :=
    viewsOk_beside h (State.setStuckMark_changes (State.setStuckDue_changes (.refl _ _) _ _ rfl) _ _ rfl)
  unfold State.markStuck
  dsimp only
  split
  · exact hm
  · have hl := viewsOk_latchEvent hm (.sensorFault .door)
    unfold State.declareDoorFault
    refine viewsOk_beside (s := if _ then _ else _) ?_ (State.evaluate_changes (.refl _ _) rfl)
    split
    · exact viewsOk_evidenceEvent (viewsOk_beside hl (State.setWindow_changes (.refl _ _) _ rfl)) _
    · exact hl

/-- An expiry of the quiet time, its mark set. -/
theorem viewsOk_passed {s : State} (h : ViewsOk s) {f : Evidence → Evidence} (c : State → Prop) [DecidablePred c] :
    ViewsOk (if c (s.modEvidence f) then (s.modEvidence f).declareVacancy else s.modEvidence f) := by
  have hmark : ViewsOk (s.modEvidence f) :=
    viewsOk_beside h (State.modEvidence_changes (.refl _ _) _ (.inl rfl) (.inl rfl) (.inl rfl) (.inl rfl))
  split
  · exact viewsOk_declareVacancy hmark
  · exact hmark

theorem viewsOk_overrunExpired {s : State} (h : ViewsOk s) : ViewsOk s.overrunExpired := by
  refine viewsOk_handling h (core_of_room ?_ fun ho => ?_)
  · exact State.latchEvent_changes (State.setOccupancy_changes (State.clearOverrun_changes (.refl _ _) rfl) _ rfl) _ rfl
  · rw [latchEvent_room] at ho
    cases ho

/-! ### The analogue inputs (R40, R41, R100, R104) -/

/-- A loop step sets the rest level alone (R100). -/
theorem loopStep_kept (s : State) : ViewsKept s s.loopStep := by
  unfold State.loopStep
  split
  · exact viewsKept_beside (.refl _ _)
  · have hd : Changes [.dims] (s.modLight fun l => { l with restLevel := s.levelAtStep })
        (s.modLight fun l => { l with restLevel := s.levelAtStep }).driveDims := State.driveDims_changes (.refl _ _) rfl
    have hc : Changes [.dims, .light] s (s.modLight fun l => { l with restLevel := s.levelAtStep }).driveDims :=
      State.driveDims_changes (State.modLight_changes (.refl _ _) _ rfl) rfl
    exact ⟨isRunning_congr hc.phase, sameRoom_of_changes hc, fun q => sameValue_of_changes hc q,
      by constructor <;> rw [hd.light] <;> rfl, hc.shade_held, hc.pair_handed⟩

theorem latchIfSet_changes (s : State) (before after : Bool) (i : SensorInput) :
    Changes [.queue, .latches] s (s.latchIfSet before after i) := by
  unfold State.latchIfSet
  exact Changes.ite (State.latchEvent_changes (.refl _ _) _ rfl) (.refl _ _)

/-- A sample's reading, with the fault that it may set. -/
theorem viewsOk_sampled {s : State} (h : ViewsOk s) (f : Evidence → Evidence) (before after : Bool) (i : SensorInput) :
    ViewsOk ((s.modEvidence f).latchIfSet before after i) :=
  viewsOk_beside h ((State.modEvidence_changes (ps := besideViews) (.refl _ _) f (.inl rfl) (.inl rfl) (.inl rfl) (.inl rfl)).then
    (latchIfSet_changes _ _ _ _))

theorem viewsOk_takePhoto {s : State} (h : ViewsOk s) (counts : Nat) : ViewsOk (s.takePhoto counts) := by
  unfold State.takePhoto
  exact viewsOk_kept (viewsOk_sampled h _ _ _ _) (loopStep_kept _)

/-- The glare flag as it stands, with another dwell. -/
theorem setGlare_kept {s : State} {g : Bool} (h : g = s.shade.glare) (due : Option Nat) : ViewsKept s (s.setGlare g due) where
  running := rfl
  room := ⟨rfl, rfl, rfl, rfl, h, rfl, fun _ _ => rfl, fun _ => rfl⟩
  values _ := rfl
  lights := sameLights_of_light rfl
  held := rfl
  handed := rfl

/-- The glare flag changes, and the targets are decided afresh; the lights do not read it. -/
theorem viewsOk_setGlare_reshade {s : State} (h : ViewsOk s) (g : Bool) (due : Option Nat) :
    ViewsOk (s.setGlare g due).reshade := by
  have hlights : s.isRunning = true → LightsSet (s.setGlare g due) := fun hr => by
    obtain ⟨scene, fields, target⟩ := (viewsOk_iff.mp h hr).1
    exact ⟨scene, fields, target⟩
  have hshade := reshade_changes (s.setGlare g due)
  have hphase : (s.setGlare g due).reshade.isRunning = s.isRunning := isRunning_congr hshade.phase
  exact viewsOk_iff.mpr fun hr => ⟨lightsSet_of_changes (hlights (hphase.symm.trans hr)) hshade, blindsSet_reshade _⟩

theorem viewsOk_glareReading {s : State} (h : ViewsOk s) : ViewsOk s.glareReading := by
  unfold State.glareReading
  dsimp only
  split
  · exact viewsOk_kept h (setGlare_kept rfl _)
  · split
    · exact h
    · split
      next hclear =>
        split
        · exact viewsOk_setGlare_reshade h _ _
        · exact h
      next hset =>
        have hglare : true = s.shade.glare := by
          rw [Bool.not_eq_true', Bool.not_eq_false] at hset
          exact hset.symm
        repeat' split
        · exact viewsOk_kept h (setGlare_kept hglare _)
        · exact h
        · exact viewsOk_kept h (setGlare_kept hglare _)

theorem viewsOk_takeIrradiance {s : State} (h : ViewsOk s) (counts : Nat) : ViewsOk (s.takeIrradiance counts) := by
  unfold State.takeIrradiance
  exact viewsOk_glareReading (viewsOk_sampled h _ _ _ _)

/-! ### Panel keys (R154 to R156) -/

/-- A key keeps what its own step keeps. -/
theorem viewsOk_pressKey {s : State} (h : ViewsOk s) {ask : State → State × Bool} (ha : ∀ s, ViewsOk s → ViewsOk (ask s).1) :
    ViewsOk (s.pressKey ask) := by
  have hpressed : ViewsOk s.keyPressed := by
    unfold State.keyPressed State.removeStale
    exact viewsOk_removeWhere (viewsOk_evidenceEvent h _) _
  exact viewsOk_beside (ha _ hpressed) (indicate_changes _ _).mono

theorem viewsOk_askOwn {s : State} (h : ViewsOk s) (q : Quantity) (v : Int) : ViewsOk (s.askOwn q v).1 :=
  viewsOk_takeRequest h _

theorem viewsOk_askLights {s : State} (h : ViewsOk s) (q : Quantity) (f : Forwarded) (own : Int) :
    ViewsOk (s.askLights q f own).1 := by
  unfold State.askLights State.askForwarded
  repeat' split
  · exact viewsOk_latchEvent h _
  · exact viewsOk_beside h (State.forward_changes (.refl _ _) _ rfl)
  · exact viewsOk_askOwn h q own

theorem viewsOk_askRoomOff {s : State} (h : ViewsOk s) : ViewsOk s.askRoomOff.1 := by
  have hr : ViewsOk s.removeLevel3 := viewsOk_removeWhere h _
  unfold State.askRoomOff State.requestVacancy
  repeat' split
  · exact viewsOk_latchEvent h _
  · exact viewsOk_declareVacancy hr
  · exact hr

end Sys2Proof.Machine.RoomProofs
end

section
/-! SUPPORT. The pair, life-safety and start-up keep the lights and the blinds to the room, and with them every command. -/

namespace Sys2Proof.Machine.RoomProofs
open Sys2Proof.Machine.EvidenceProofs

/-! ### The pair (R130 to R145) -/

/-- The Pair Unit changed but for whether the node follows, the mirrored values and those handed to it. -/
theorem viewsOk_modPair {s : State} (h : ViewsOk s) {f : Pair → Pair} (hfollower : (s.modPair f).isFollower = s.isFollower)
    (hmirror : (f s.pair).mirror = s.pair.mirror) (hhanded : (f s.pair).handed = s.pair.handed) : ViewsOk (s.modPair f) :=
  viewsOk_kept h
    { running := rfl
      room :=
        { cfg := rfl, follower := hfollower, mirror := hmirror, safety := rfl, glare := rfl, occupancy := rfl
          overrun := fun _ _ => rfl
          current := fun _ => rfl }
      values := fun _ => rfl
      lights := sameLights_of_light rfl
      held := rfl
      handed := hhanded }

theorem viewsOk_queuePairCtrl {s : State} (h : ViewsOk s) (m : PairMsg) : ViewsOk (s.queuePairCtrl m) :=
  viewsOk_beside h (State.queuePairCtrl_changes (.refl _ _) m rfl)

/-- A node entering its role decides everything afresh (R136). -/
theorem viewsOk_enterRole (s : State) (n : Nat) : ViewsOk (s.enterRole n) :=
  viewsOk_queueReport (viewsOk_relightAndShade _) _

/-- A node leaving its role decides everything afresh (R142). -/
theorem viewsOk_exitRole (s : State) (r : PairState) : ViewsOk (s.exitRole r) := viewsOk_relightAndShade _

theorem viewsOk_becomeSingle {s : State} (h : ViewsOk s) : ViewsOk s.becomeSingle := by
  unfold State.becomeSingle
  split
  · exact viewsOk_exitRole _ _
  next hj =>
    have hf : s.isFollower = false := (Bool.or_eq_false_iff.mp (Bool.eq_false_iff.mpr hj)).2
    exact viewsOk_modPair h (by rw [hf]; rfl) rfl rfl

theorem viewsOk_enterOffering {s : State} (h : ViewsOk s) (hsingle : s.pair.state = .single) : ViewsOk s.enterOffering := by
  have hf : s.isFollower = false := by simp [State.isFollower, hsingle]
  exact viewsOk_queuePairCtrl (viewsOk_modPair h (by rw [hf]; rfl) rfl rfl) _

theorem viewsOk_settlePartition {s : State} (h : ViewsOk s) : ViewsOk s.settlePartition := by
  have hread : ViewsOk (s.modPair fun p => { p with debounceDue := none, readsOpen := s.pins.partOpen }) :=
    viewsOk_modPair h rfl rfl rfl
  unfold State.settlePartition State.partitionOpened State.partitionClosed
  dsimp only
  split
  · exact hread
  · split
    · split
      next hs => exact viewsOk_enterOffering hread hs.2
      next => exact hread
    · split
      · exact hread
      · exact viewsOk_becomeSingle (viewsOk_queuePairCtrl hread _)

theorem viewsOk_mismatch {s : State} (h : ViewsOk s) : ViewsOk s.mismatch := viewsOk_latchEvent h _

theorem viewsOk_restartLiveness {s : State} (h : ViewsOk s) : ViewsOk s.restartLiveness :=
  viewsOk_beside h (State.restartLiveness_changes (.refl _ _) rfl)

theorem viewsOk_setFollowerCount {s : State} (h : ViewsOk s) (n : Nat) : ViewsOk (s.setFollowerCount n) :=
  viewsOk_beside h (State.setFollowerCount_changes (.refl _ _) _ rfl)

theorem viewsOk_evaluate {s : State} (h : ViewsOk s) : ViewsOk s.evaluate := viewsOk_beside h (evaluate_changes s).mono

theorem viewsOk_takeOffer {s : State} (h : ViewsOk s) (n : Nat) : ViewsOk (s.takeOffer n) := by
  unfold State.takeOffer
  split
  · exact viewsOk_evaluate (viewsOk_setFollowerCount (viewsOk_restartLiveness (viewsOk_queuePairCtrl h _)) _)
  · exact viewsOk_restartLiveness (viewsOk_queuePairCtrl h _)
  · split
    · exact viewsOk_enterRole _ _
    · exact viewsOk_mismatch (viewsOk_queuePairCtrl h _)
  all_goals
    split
    · exact viewsOk_enterRole _ _
    · exact h

theorem viewsOk_takeAccept {s : State} (h : ViewsOk s) : ViewsOk s.takeAccept := by
  unfold State.takeAccept
  split
  · exact viewsOk_enterRole _ _
  · exact viewsOk_enterRole _ _
  · exact viewsOk_restartLiveness h
  · exact viewsOk_restartLiveness h
  · exact h

theorem viewsOk_takeLeave {s : State} (h : ViewsOk s) : ViewsOk s.takeLeave := by
  have hsingle : ViewsOk s.becomeSingle := viewsOk_becomeSingle h
  have hleave : ViewsOk (if s.becomeSingle.pair.readsOpen then s.becomeSingle.enterOffering else s.becomeSingle) := by
    split
    · exact viewsOk_enterOffering hsingle (pair_state_becomeSingle s)
    · exact hsingle
  unfold State.takeLeave
  split
  · exact hleave
  · exact hleave
  · exact hleave
  · exact h
  · exact h

theorem viewsOk_followerRequest {s : State} (h : ViewsOk s) (f : FollowFields) : ViewsOk (s.followerRequest f) := by
  have hstale : ViewsOk s.removeStale := by
    unfold State.removeStale
    exact viewsOk_removeWhere h _
  unfold State.followerRequest
  repeat' split
  · exact h
  · exact h
  · exact viewsOk_modPair (viewsOk_takeRequest hstale _) rfl rfl rfl

theorem viewsOk_takeFollowFrame {s : State} (h : ViewsOk s) (f : FollowFields) : ViewsOk (s.takeFollowFrame f) := by
  have hcount : ViewsOk ((s.restartLiveness.setFollowerCount f.headcount).evaluate) :=
    viewsOk_evaluate (viewsOk_setFollowerCount (viewsOk_restartLiveness h) _)
  refine viewsOk_followerRequest ?_ f
  split
  · exact viewsOk_evidenceEvent hcount _
  · exact hcount

theorem viewsOk_takePairState {s : State} (h : ViewsOk s) (payload : List Byte) : ViewsOk (s.takePairState payload) := by
  unfold State.takePairState
  repeat' split
  · exact viewsOk_takeFollowFrame h _
  · exact viewsOk_relightAndShade _
  · exact h
  · exact viewsOk_queuePairCtrl h _
  · exact h

theorem viewsOk_losePartner (s : State) : ViewsOk s.losePartner := by
  have hoffers : ∀ (u : State) (due : Nat), ViewsOk u → ViewsOk (u.modPair fun p => { p with offerDue := some due, offerCount := 0 }) :=
    fun _ _ hu => viewsOk_modPair hu rfl rfl rfl
  exact hoffers _ _ (viewsOk_exitRole _ _)

/-! ### Life-safety (R158, R159) -/

/-- One bank's part of a fresh decision: its target, held and issued. -/
def takeAnew (s : State) (b : Bank) (t : Option Target) : State :=
  match t with
  | none => s.setHeld b none
  | some x => (s.setHeld b (some x)).requestBank b x

theorem decideAnew_eq (s : State) :
    s.decideAnew = takeAnew (takeAnew (takeAnew s .bank1 (s.bankTarget .bank1)) .bank2 (s.bankTarget .bank2)) .bank3
      (s.bankTarget .bank3) := rfl

theorem takeAnew_held (s : State) (b' b : Bank) (t : Option Target) :
    (takeAnew s b' t).shade.held.get b = if b = b' then t else s.shade.held.get b := by
  have hset : (s.setHeld b' t).shade.held.get b = if b = b' then t else s.shade.held.get b := by
    split
    next heq => rw [heq]; exact PerBank.get_set_same _ _ _
    next hne => exact PerBank.get_set_other _ _ hne
  cases t with
  | none => exact hset
  | some x =>
    have hreq : Changes [.motor, .queue, .latches, .drive] (s.setHeld b' (some x)) ((s.setHeld b' (some x)).requestBank b' x) :=
      State.requestBank_changes (.refl _ _) _ _ rfl
    exact (congrArg (fun v : PerBank (Option Target) => v.get b) hreq.shade_held).trans hset

/-- What a fresh decision of every target holds: the targets of the state it starts from. -/
theorem decideAnew_held (s : State) (b : Bank) : s.decideAnew.shade.held.get b = s.bankTarget b := by
  rw [decideAnew_eq, takeAnew_held, takeAnew_held, takeAnew_held]
  cases b <;> rfl

theorem decideAnew_changes (s : State) : Changes [.motor, .queue, .latches, .held, .drive] s s.decideAnew :=
  State.decideAnew_changes (.refl _ _) rfl

/-- The occasions on which every target is decided and issued afresh: the end of life-safety and the start of running. -/
theorem viewsOk_decidedAnew (s : State) : ViewsOk s.relight.decideAnew.handCarried := by
  have hanew := decideAnew_changes s.relight
  have hhand := handCarried_changes s.relight.decideAnew
  have hc : Changes [.motor, .queue, .latches, .held, .drive, .handed] s.relight s.relight.decideAnew.handCarried :=
    hanew.mono.then hhand
  refine viewsOk_set (lightsSet_of_changes (lightsSet_relight s) hc) ⟨fun b => ?_, handed_handCarried _⟩
  rw [hhand.shade_held, decideAnew_held, bankTarget_of_changes hc]

theorem viewsOk_changeMode {s : State} (h : ViewsOk s) (m : LifeSafety) : ViewsOk (s.changeMode m) := by
  unfold State.changeMode
  dsimp only
  split
  · exact h
  · split
    · let u := (s.setMode m).evaluate.safetyDamper.relight
      have hdrive : Changes [.motor, .drive] u u.driveLifeSafety := State.driveLifeSafety_changes (.refl _ _) rfl
      refine viewsOk_set ?_ (blindsSet_reshade u.driveLifeSafety)
      exact lightsSet_of_changes (lightsSet_of_changes (lightsSet_relight _) hdrive) (reshade_changes _)
    next hactive =>
      split
      · exact viewsOk_decidedAnew _
      next hstays =>
        have hsafety : (s.setMode m).lifeSafetyActive = s.lifeSafetyActive := by
          simp [State.lifeSafetyActive, State.setMode, hactive, hstays]
        have hmode : ViewsOk (s.setMode m) := viewsOk_kept h
          { running := rfl
            room := ⟨rfl, rfl, rfl, hsafety, rfl, rfl, fun _ _ => rfl, fun _ => rfl⟩
            values := fun _ => rfl, lights := sameLights_of_light rfl, held := rfl, handed := rfl }
        exact viewsOk_beside hmode (State.safetyDamper_changes (.refl _ _) rfl)

theorem viewsOk_takeSafetyFrame {s : State} (h : ViewsOk s) (m : LifeSafety) : ViewsOk (s.takeSafetyFrame m) := by
  refine viewsOk_changeMode (viewsOk_kept h ?_) _
  exact ⟨rfl, ⟨rfl, rfl, rfl, rfl, rfl, rfl, fun _ _ => rfl, fun _ => rfl⟩, fun _ => rfl, sameLights_of_light rfl, rfl, rfl⟩

theorem viewsOk_fireTo {s : State} (h : ViewsOk s) (asserted : Bool) : ViewsOk (s.fireTo asserted) := by
  have hpin : ViewsOk (s.modPins fun p => { p with fire := asserted }) :=
    viewsOk_beside h (State.modPins_changes (.refl _ _) _ rfl)
  unfold State.fireTo
  dsimp only
  repeat' split
  · exact viewsOk_changeMode hpin _
  · exact viewsOk_beside hpin (State.faultOutputs_changes (.refl _ _) rfl)
  · exact hpin

/-! ### Start-up (R182 to R186) -/

theorem viewsOk_beginRunning (s : State) : ViewsOk s.beginRunning :=
  viewsOk_beside (viewsOk_decidedAnew _) (State.startTimers_changes (.refl _ _) rfl)

theorem viewsOk_finishRead (s : State) (cause : ReadCause) (beginsAt : Nat) (image : List Byte) :
    ViewsOk (s.finishRead cause beginsAt image) := by
  cases cause <;> exact viewsOk_beginRunning _

theorem viewsOk_failAttempt (s : State) (cause : ReadCause) (attempt beginsAt : Nat) :
    ViewsOk (s.failAttempt cause attempt beginsAt) := by
  unfold State.failAttempt
  dsimp only
  split <;> exact viewsOk_stopped rfl

/-! ### Every command -/

theorem viewsOk_whileRunning {s : State} {act : State → State} (h : ViewsOk s) (ha : ViewsOk (act s)) :
    ViewsOk (s.whileRunning act) := by
  unfold State.whileRunning
  split
  · exact ha
  · exact h

/-- A command that acts only while the blocks run, and leaves the lights and the blinds. -/
theorem viewsOk_running_beside {s : State} {act : State → State} (h : ViewsOk s) (ha : Changes besideViews s (act s)) :
    ViewsOk (s.whileRunning act) :=
  viewsOk_whileRunning h (viewsOk_beside h ha)

theorem viewsOk_timer {s : State} {timer : Option Nat} {act : State → State} (h : ViewsOk s)
    (ha : ∀ u, ViewsOk u → ViewsOk (act u)) : ViewsOk (s.onExpiry timer act) := by
  unfold State.onExpiry
  split
  · exact h
  · exact ha _ (viewsOk_beside h (State.advanceTo_changes (.refl _ _) _ rfl))

/-- A timer's expiry that acts only while the blocks run. -/
theorem viewsOk_expiry {s : State} {timer : State → Option Nat} {act : State → State} (h : ViewsOk s)
    (ha : ∀ u, ViewsOk u → ViewsOk (act u)) : ViewsOk (s.whileRunning fun x => x.onExpiry (timer x) act) :=
  viewsOk_whileRunning h (viewsOk_timer h ha)

theorem viewsOk_expiry_beside {s : State} {timer : State → Option Nat} {act : State → State} (h : ViewsOk s)
    (ha : ∀ u, Changes besideViews u (act u)) : ViewsOk (s.whileRunning fun x => x.onExpiry (timer x) act) :=
  viewsOk_expiry h fun u hu => viewsOk_beside hu (ha u)

/-- A frame keeps what its owner's action keeps, from a state whose source is recorded. -/
theorem viewsOk_receive {s : State} {act : State → State} (h : ViewsOk s) (hm : MarkOk s) (kind required : Nat) (f : Frame)
    (ha : ∀ u, ViewsOk u → MarkOk u → ViewsOk (act u)) : ViewsOk (s.receive kind required f act) := by
  have hc : Changes [.peers, .airRecord, .grant, .damper, .queue] s (s.recordPeer f.src.toNat) :=
    State.recordPeer_changes (.refl _ _) _ rfl
  have hr : ViewsOk (s.recordPeer f.src.toNat) := viewsOk_beside h hc.mono
  refine viewsOk_whileRunning h ?_
  unfold State.dispatch
  repeat' split
  · exact h
  · exact viewsOk_latchEvent hr _
  · exact ha _ hr (markOk_of_changes hm hc (hv := congrArg Clock.timeValid hc.clock))

theorem viewsOk_receive_beside {s : State} {act : State → State} (h : ViewsOk s) (hm : MarkOk s) (kind required : Nat) (f : Frame)
    (ha : ∀ u, Changes besideViews u (act u)) : ViewsOk (s.receive kind required f act) :=
  viewsOk_receive h hm kind required f fun u hu _ => viewsOk_beside hu (ha u)

/-- The partner's frames. -/
theorem viewsOk_partnerFrame {s : State} {act : State → State} (h : ViewsOk s) (hm : MarkOk s) (kind required : Nat) (f : Frame)
    (ha : ∀ u, ViewsOk u → ViewsOk (act u)) :
    ViewsOk (s.receive kind required f fun x => if x.fromPartner f.src.toNat then act x else x) :=
  viewsOk_receive h hm kind required f fun u hu _ => by
    split
    · exact ha u hu
    · exact hu

theorem viewsOk_writePartnerMax {s : State} (h : ViewsOk s) (m : Nat) : ViewsOk (s.writePartnerMax m) :=
  viewsOk_beside h (State.writePartnerMax_changes (.refl _ _) m rfl)

theorem viewsOk_takeRefuse {s : State} (h : ViewsOk s) : ViewsOk s.takeRefuse :=
  viewsOk_beside h (State.takeRefuse_changes (.refl _ _) rfl)

/-- Every command has a next state, which keeps the lights and the blinds to the room. -/
theorem viewsOk_exec (c : Instr) {s : State} (h : ViewsOk s) (hm : MarkOk s) : ∃ t, exec c s = .next t ∧ ViewsOk t := by
  cases c with
  | nrstAsserted => exact ⟨_, rfl, viewsOk_stopped rfl⟩
  | nrstNegated =>
    refine ⟨_, rfl, ?_⟩
    unfold State.releaseReset
    split
    · exact viewsOk_stopped rfl
    · exact h
  | configAttemptFailed =>
    refine ⟨_, rfl, ?_⟩
    split
    · exact viewsOk_failAttempt _ _ _ _
    · exact h
  | configRetryExpiry =>
    refine ⟨_, rfl, ?_⟩
    split
    · exact viewsOk_stopped rfl
    · exact h
  | configReadComplete image =>
    refine ⟨_, rfl, ?_⟩
    split
    · exact viewsOk_finishRead _ _ _ _
    · exact h
  | minuteBoundary => exact ⟨_, rfl, viewsOk_minutePasses h⟩
  | time f =>
    refine ⟨_, rfl, viewsOk_receive h hm _ _ _ fun u hu hmu => ?_⟩
    split
    · exact viewsOk_takeTime hu hmu _
    · exact hu
  | ttBegin f =>
    refine ⟨_, rfl, viewsOk_receive h hm _ _ _ fun u hu hmu => ?_⟩
    split
    · exact viewsOk_beginTransfer hu hmu _ _
    · exact hu
  | ttEntry f =>
    refine ⟨_, rfl, viewsOk_receive h hm _ _ _ fun u hu hmu => ?_⟩
    split
    · exact viewsOk_transferEntry hu hmu _ _
    · exact hu
  | ttCancel f =>
    refine ⟨_, rfl, viewsOk_receive h hm _ _ _ fun u hu _ => ?_⟩
    split
    · exact viewsOk_cancelSession hu _
    · exact hu
  | silenceTimerExpiry => exact ⟨_, rfl, viewsOk_expiry h fun u hu => viewsOk_closeTransfer hu _⟩
  | overrunTimerExpiry => exact ⟨_, rfl, viewsOk_expiry h fun u hu => viewsOk_overrunExpired hu⟩
  | pirPulse => exact ⟨_, rfl, viewsOk_whileRunning h (viewsOk_evidenceEvent h _)⟩
  | beamBreak b =>
    refine ⟨_, rfl, ?_⟩
    have hb : ViewsOk (s.setBeam b true) := viewsOk_beside h (State.setBeam_changes (.refl _ _) _ _ rfl)
    split
    · exact h
    · exact viewsOk_whileRunning hb (viewsOk_takeBreak (viewsOk_beside hb (State.setStuckDue_changes (.refl _ _) _ _ rfl)) b)
  | beamRelease b =>
    refine ⟨_, rfl, ?_⟩
    split
    · exact viewsOk_running_beside (viewsOk_beside h (State.setBeam_changes (.refl _ _) _ _ rfl))
        (State.releaseBeam_changes (.refl _ _) _ rfl)
    · exact h
  | windowExpiry =>
    exact ⟨_, rfl, viewsOk_expiry h fun u hu =>
      viewsOk_evidenceEvent (viewsOk_beside hu (State.setWindow_changes (.refl _ _) _ rfl)) _⟩
  | stuckTimerExpiry b => exact ⟨_, rfl, viewsOk_expiry h fun u hu => viewsOk_markStuck hu b⟩
  | vacancyHoldExpiry =>
    exact ⟨_, rfl, viewsOk_expiry h fun u hu => viewsOk_passed hu fun x => x.suppressedBy = none ∧ x.testedHeadcount = 0⟩
  | tripleHoldExpiry => exact ⟨_, rfl, viewsOk_expiry h fun u hu => viewsOk_passed hu fun x => x.suppressedBy = none⟩
  | co2Sample counts =>
    exact ⟨_, rfl, viewsOk_running_beside h (State.takeCo2_changes (State.advanceTo_changes (.refl _ _) _ rfl) _ rfl)⟩
  | photocellSample counts =>
    exact ⟨_, rfl, viewsOk_whileRunning h (viewsOk_takePhoto (viewsOk_beside h (State.advanceTo_changes (.refl _ _) _ rfl)) _)⟩
  | irradianceSample counts =>
    exact ⟨_, rfl, viewsOk_whileRunning h
      (viewsOk_takeIrradiance (viewsOk_beside h (State.advanceTo_changes (.refl _ _) _ rfl)) _)⟩
  | clearDwellExpiry => exact ⟨_, rfl, viewsOk_expiry h fun u hu => viewsOk_setGlare_reshade hu _ _⟩
  | capacity f =>
    refine ⟨_, rfl, viewsOk_receive_beside h hm _ _ _ fun u => ?_⟩
    split
    · exact State.takeCapacity_changes (.refl _ _) _ rfl
    · exact .refl _ _
  | demand f =>
    refine ⟨_, rfl, viewsOk_receive_beside h hm _ _ _ fun u => ?_⟩
    split
    · exact State.takeDemand_changes (.refl _ _) _ _ rfl
    · exact .refl _ _
  | capacityTimerExpiry => exact ⟨_, rfl, viewsOk_expiry_beside h fun _ => State.loseCapacity_changes (.refl _ _) rfl⟩
  | viewAgeCheck => exact ⟨_, rfl, viewsOk_running_beside h (State.checkView_changes (.refl _ _) rfl)⟩
  | pinchTimerExpiry => exact ⟨_, rfl, viewsOk_expiry_beside h fun _ => State.pinchExpired_changes (.refl _ _) rfl⟩
  | demandPeriodExpiry =>
    exact ⟨_, rfl, viewsOk_running_beside h (State.demandPeriod_changes (State.advanceTo_changes (.refl _ _) _ rfl) rfl)⟩
  | moveCompletion => exact ⟨_, rfl, viewsOk_running_beside h (State.travelDone_changes (.refl _ _) rfl)⟩
  | homingEnd => exact ⟨_, rfl, viewsOk_running_beside h (State.homingDone_changes (.refl _ _) rfl)⟩
  | trip held =>
    exact ⟨_, rfl, viewsOk_running_beside (viewsOk_beside h (State.modPins_changes (.refl _ _) _ rfl))
      (State.tripNow_changes (.refl _ _) rfl)⟩
  | partChange isOpen =>
    refine ⟨_, rfl, ?_⟩
    have hp : ViewsOk (s.modPins fun p => { p with partOpen := isOpen }) :=
      viewsOk_beside h (State.modPins_changes (.refl _ _) _ rfl)
    split
    · exact h
    · exact viewsOk_whileRunning hp (viewsOk_modPair hp rfl rfl rfl)
  | debounceExpiry => exact ⟨_, rfl, viewsOk_expiry h fun u hu => viewsOk_settlePartition hu⟩
  | offerRetryExpiry => exact ⟨_, rfl, viewsOk_expiry_beside h fun _ => State.offerAgain_changes (.refl _ _) rfl⟩
  | joinOffer f =>
    refine ⟨_, rfl, viewsOk_receive h hm _ _ _ fun u hu _ => ?_⟩
    split
    · exact viewsOk_takeOffer (viewsOk_writePartnerMax hu _) _
    · exact hu
  | joinAccept f =>
    refine ⟨_, rfl, viewsOk_receive h hm _ _ _ fun u hu _ => ?_⟩
    split
    · exact viewsOk_takeAccept (viewsOk_writePartnerMax hu _)
    · exact hu
  | joinRefuse f => exact ⟨_, rfl, viewsOk_partnerFrame h hm _ _ f fun u hu => viewsOk_takeRefuse hu⟩
  | joinLeave f => exact ⟨_, rfl, viewsOk_partnerFrame h hm _ _ f fun u hu => viewsOk_takeLeave hu⟩
  | pairState f => exact ⟨_, rfl, viewsOk_partnerFrame h hm _ _ f fun u hu => viewsOk_takePairState hu _⟩
  | pairStatusPeriodExpiry => exact ⟨_, rfl, viewsOk_expiry_beside h fun _ => State.pairPeriod_changes (.refl _ _) rfl⟩
  | livenessExpiry => exact ⟨_, rfl, viewsOk_expiry h fun u _ => viewsOk_losePartner u⟩
  | override f =>
    refine ⟨_, rfl, viewsOk_receive h hm _ _ _ fun u hu _ => ?_⟩
    repeat' split
    · exact hu
    · exact viewsOk_takeRequest hu _
    · exact hu
  | overrideClear f =>
    refine ⟨_, rfl, viewsOk_receive h hm _ _ _ fun u hu _ => ?_⟩
    repeat' split
    · exact viewsOk_takeRequest hu _
    · exact hu
    · exact hu
  | staleTimerExpiry q => exact ⟨_, rfl, viewsOk_expiry h fun u hu => viewsOk_removeRecord hu q⟩
  | sceneKey n => exact ⟨_, rfl, viewsOk_whileRunning h (viewsOk_pressKey h fun _ hu => viewsOk_askLights hu _ _ _)⟩
  | lightUp => exact ⟨_, rfl, viewsOk_whileRunning h (viewsOk_pressKey h fun _ hu => viewsOk_askLights hu _ _ _)⟩
  | lightDown => exact ⟨_, rfl, viewsOk_whileRunning h (viewsOk_pressKey h fun _ hu => viewsOk_askLights hu _ _ _)⟩
  | blindsUp => exact ⟨_, rfl, viewsOk_whileRunning h (viewsOk_pressKey h fun _ hu => viewsOk_askOwn hu _ _)⟩
  | blindsDown => exact ⟨_, rfl, viewsOk_whileRunning h (viewsOk_pressKey h fun _ hu => viewsOk_askOwn hu _ _)⟩
  | blindsStop => exact ⟨_, rfl, viewsOk_whileRunning h (viewsOk_pressKey h fun _ hu => viewsOk_askOwn hu _ _)⟩
  | airBoostKey => exact ⟨_, rfl, viewsOk_whileRunning h (viewsOk_pressKey h fun _ hu => viewsOk_askOwn hu _ _)⟩
  | roomOff => exact ⟨_, rfl, viewsOk_whileRunning h (viewsOk_pressKey h fun _ hu => viewsOk_askRoomOff hu)⟩
  | panelByteDiscard byte framingError => exact ⟨_, rfl, h⟩
  | indicatorSent => exact ⟨_, rfl, viewsOk_beside h (State.indicatorDone_changes (.refl _ _) rfl)⟩
  | lifeSafetyEvacuate f =>
    refine ⟨_, rfl, viewsOk_receive h hm _ _ _ fun u hu _ => ?_⟩
    split
    · exact viewsOk_takeSafetyFrame hu _
    · exact hu
  | lifeSafetySmokeHold f =>
    refine ⟨_, rfl, viewsOk_receive h hm _ _ _ fun u hu _ => ?_⟩
    split
    · exact viewsOk_takeSafetyFrame hu _
    · exact hu
  | lifeSafetyClear f =>
    refine ⟨_, rfl, viewsOk_receive h hm _ _ _ fun u hu _ => ?_⟩
    split
    · exact viewsOk_takeSafetyFrame hu _
    · exact hu
  | fireChange asserted => exact ⟨_, rfl, viewsOk_fireTo h asserted⟩
  | holdOn f =>
    refine ⟨_, rfl, viewsOk_receive_beside h hm _ _ _ fun u => ?_⟩
    split
    · exact Changes.ite (State.holdOnNow_changes (.refl _ _) rfl) (.refl _ _)
    · exact .refl _ _
  | holdOff f =>
    refine ⟨_, rfl, viewsOk_receive_beside h hm _ _ _ fun u => ?_⟩
    split
    · exact Changes.ite (State.holdOffNow_changes (.refl _ _) rfl) (.refl _ _)
    · exact .refl _ _
  | restart f =>
    refine ⟨_, rfl, viewsOk_receive h hm _ _ _ fun u hu _ => ?_⟩
    repeat' split
    · exact viewsOk_stopped rfl
    · exact hu
    · exact hu
  | query f =>
    refine ⟨_, rfl, viewsOk_receive_beside h hm _ _ _ fun u => ?_⟩
    split
    · exact State.answerQuery_changes (.refl _ _) _ _ rfl
    · exact .refl _ _
  | otherFrame kind f => exact ⟨_, rfl, viewsOk_receive_beside h hm _ _ _ fun u => .refl _ _⟩
  | frameDiscard bytes badStop => exact ⟨_, rfl, viewsOk_running_beside h (State.discardFrame_changes (.refl _ _) _ _ rfl)⟩
  | frameIdleTimeout bytes badStop => exact ⟨_, rfl, viewsOk_running_beside h (State.timeoutFrame_changes (.refl _ _) _ rfl)⟩
  | statusPeriodExpiry =>
    exact ⟨_, rfl, viewsOk_running_beside h (State.statusPeriod_changes (State.advanceTo_changes (.refl _ _) _ rfl) rfl)⟩
  | attemptStart => exact ⟨_, rfl, viewsOk_running_beside h (State.startAttempt_changes (.refl _ _) rfl)⟩
  | transmitCompletion => exact ⟨_, rfl, viewsOk_running_beside h (State.completeAttempt_changes (.refl _ _) rfl)⟩
  | collision => exact ⟨_, rfl, viewsOk_running_beside h (State.collide_changes (.refl _ _) rfl)⟩
  | backoffEnd => exact ⟨_, rfl, viewsOk_running_beside h (State.endBackoff_changes (.refl _ _) rfl)⟩
  | longPauseEnd => exact ⟨_, rfl, viewsOk_expiry_beside h fun _ => State.endPause_changes (.refl _ _) rfl⟩

/-- A step runs the front command, or lets the receive path or the oscillator go on, which the lights and the blinds do not see. -/
theorem viewsOk_step {s t : State} (hroom : RoomOk s) (h : ViewsOk s) (hstep : step s = .next t) : ViewsOk t := by
  unfold step at hstep
  split at hstep
  · rw [← Host.Outcome.next.inj hstep]
    exact viewsOk_beside h (State.idle_changes s).mono
  next c rest _ =>
    have hrest : ViewsOk { s with pending := rest } := viewsOk_kept h
      ⟨rfl, ⟨rfl, rfl, rfl, rfl, rfl, rfl, fun _ _ => rfl, fun _ => rfl⟩, fun _ => rfl, sameLights_of_light rfl, rfl, rfl⟩
    obtain ⟨earliest, stated, timed⟩ := markOk_of_roomOk hroom
    obtain ⟨u, hu, hok⟩ := viewsOk_exec c hrest ⟨earliest, stated, timed⟩
    rw [hu] at hstep
    rw [← Host.Outcome.next.inj hstep]
    exact hok

end Sys2Proof.Machine.RoomProofs
end

section
/-! SUPPORT. What a decision of the lights and of the bank targets answers, and the statement that they follow the room (R64, R65,
R96 to R112). -/

namespace Sys2Proof.Machine.RoomProofs
open Sys2Proof.Machine.EvidenceProofs

/-! ### The kinds ahead of all others (R172) -/

/-- An ordered queue is no longer than a list of all its kinds. -/
theorem length_le_of_kinds {c : ConfigRecord} : ∀ {q : List Entry},
    q.Pairwise (fun a b => urgency c a.kind < urgency c b.kind) → ∀ {l : List ReportKind}, (∀ e ∈ q, e.kind ∈ l) →
      q.length ≤ l.length := by
  intro q hq l hl
  have hnodup : (q.map (·.kind)).Nodup := List.pairwise_map.mpr (hq.imp fun hab heq => by
    rw [heq] at hab
    exact lt_irrefl _ hab)
  have hsub : q.map (·.kind) ⊆ l := fun k hk => by
    obtain ⟨e, he, rfl⟩ := List.mem_map.mp hk
    exact hl e he
  simpa using (hnodup.subperm hsub).length_le

/-- With no event kind of priority 0, PAIR_CTRL alone stands ahead of PAIR_STATE, and nothing ahead of PAIR_CTRL. -/
theorem pairCtrl_of_ahead {c : ConfigRecord} (hc : ∀ k, 1 ≤ (c.events.get k).priority) {j k : ReportKind}
    (hk : k = .pairCtrl ∨ k = .pairState) (h : urgency c j < urgency c k) : j = .pairCtrl := by
  have hlt : urgency c j < 22 := h.trans_le (by rcases hk with rfl | rfl <;> simp [urgency, priority, kindOrder])
  cases j with
  | pairCtrl => rfl
  | event e =>
    have h1 := hc e
    have h2 := number_bounds e
    simp only [urgency, priority, kindOrder] at hlt
    omega
  | _ =>
    simp only [urgency, priority, kindOrder] at hlt
    omega

/-- A PAIR_CTRL or PAIR_STATE entry finds its place in any ordered queue: of eight kinds at most one is in flight, and at most one
stands ahead of it (R172, R174). -/
theorem isQueued_of_queuedIfRoom {s : State} (hs : QueueSorted s) (hc : ∀ k, 1 ≤ (s.cfg.events.get k).priority) {k : ReportKind}
    (hk : k = .pairCtrl ∨ k = .pairState) (h : QueuedIfRoom s k) : s.isQueued k = true := by
  rcases h with h | ⟨hlen, hall⟩
  · exact h
  · have hflight : ∃ j, ∀ k, s.inFlight k = true → k = j := by
      unfold State.inFlight
      cases s.link.attempt with
      | none => exact ⟨k, fun _ h => by cases h⟩
      | some a => exact ⟨a.kind, fun k h => by simp at h; exact h.1.symm⟩
    obtain ⟨j, hj⟩ := hflight
    have hfew : s.link.queue.length ≤ [j, ReportKind.pairCtrl].length :=
      length_le_of_kinds hs fun e he => by
        rcases hall e he with hf | hlt
        · simp [hj _ hf]
        · simp [pairCtrl_of_ahead hc hk hlt]
    simp at hfew
    omega

/-! ### The lights decided afresh -/

theorem sceneOf_eq (c : ConfigRecord) (n : Nat) :
    sceneOf c n = if n = 0 then ⟨0, 0, .followGlare⟩ else c.scenes.getD (n - 1) ⟨0, 0, .followGlare⟩ := rfl

theorem sceneOverride_eq (s : State) :
    s.sceneOverride =
      if s.isFollower then s.pair.mirror.lightScene
      else if s.lifeSafetyActive then none else s.overrides.records.lightScene.map (·.value.toNat) := by
  unfold State.sceneOverride State.activeOverride
  split
  · rfl
  · split <;> rfl

theorem lightTrim_eq (s : State) :
    s.lightTrim =
      if s.isFollower then s.pair.mirror.lightLevel.getD 0
      else if s.lifeSafetyActive then 0 else (s.overrides.records.lightLevel.map (·.value)).getD 0 := by
  unfold State.lightTrim State.activeOverride
  split
  · rfl
  · split <;> rfl

/-- The fields of the active scene are those of its number, but for the front level of a selected scene in EXPECTED. -/
theorem activeScene_fields (s : State) :
    s.activeScene.front =
        (if s.sceneOverride = none ∧ s.room.occupancy = .expected then 0 else (sceneOf s.cfg s.activeNumber).front) ∧
      s.activeScene.rest = (sceneOf s.cfg s.activeNumber).rest ∧ s.activeScene.policy = (sceneOf s.cfg s.activeNumber).policy := by
  unfold State.activeScene State.activeNumber
  cases s.sceneOverride with
  | some n => simp
  | none =>
    by_cases ho : s.room.occupancy = .expected <;> simp [ho]

/-- The lights decided afresh (R64, R96, R97, R99 to R101). -/
theorem relight_follows (s : State) :
    Changes [.light, .dims] s s.relight ∧ s.relight.light.scene = s.sceneOverride.getD s.selectedScene ∧
      s.relight.light.front =
        (if s.sceneOverride = none ∧ s.room.occupancy = .expected then 0 else (sceneOf s.cfg s.activeNumber).front) ∧
      s.relight.light.rest = (sceneOf s.cfg s.activeNumber).rest ∧
      s.relight.light.policy = (sceneOf s.cfg s.activeNumber).policy ∧
      s.relight.light.loopTarget = s.formTarget (sceneOf s.cfg s.activeNumber).rest ∧
      s.relight.light.restLevel =
        (if s.formTarget (sceneOf s.cfg s.activeNumber).rest = s.light.loopTarget then s.light.restLevel
        else if s.formTarget (sceneOf s.cfg s.activeNumber).rest = 0 then 0
        else if s.evidence.photo.fault = true ∨ s.evidence.photo.held = none then
          min 1000 (2 * s.formTarget (sceneOf s.cfg s.activeNumber).rest)
        else s.light.restLevel) := by
  obtain ⟨hfront, hrest, hpolicy⟩ := activeScene_fields s
  have hlevel : ∀ target, s.levelAtChange target =
      if target = 0 then 0
      else if s.evidence.photo.fault = true ∨ s.evidence.photo.held = none then min 1000 (2 * target)
      else s.light.restLevel := fun target => by
    simp [State.levelAtChange, State.photoUnusable, fallbackLevel, Nat.mul_comm]
  rw [relight_light, ← hlevel, ← hrest, ← hfront, ← hpolicy]
  exact ⟨(relight_changes s).mono, rfl, rfl, rfl, rfl, rfl, rfl⟩

/-! ### The bank targets decided afresh -/

theorem bankTarget_blinds {s : State} (h : s.lifeSafetyActive = false) {r : OverrideRecord}
    (hr : s.overrides.records.blinds = some r) (b : Bank) : s.bankTarget b = some ⟨r.value.toNat, .override⟩ := by
  unfold State.bankTarget
  rw [h, show s.overrides.records.get .blinds = some r from hr]
  rfl

theorem bankTarget_policy {s : State} (h : s.lifeSafetyActive = false) (hr : s.overrides.records.blinds = none) (b : Bank) :
    s.bankTarget b = s.policyTarget b := by
  unfold State.bankTarget
  rw [h, show s.overrides.records.get .blinds = none from hr]
  rfl

theorem reshade_handed (s : State) : s.reshade.pair.handed = s.carriedValues := by
  have hc : Changes [.motor, .queue, .latches, .held, .drive] s s.decideTargets := State.decideTargets_changes (.refl _ _) rfl
  show s.decideTargets.handCarried.pair.handed = _
  rw [handCarried_handed, carriedValues_same (sameRoom_of_changes hc) (congrArg Light.policy hc.light)
    (sameValue_of_changes hc _) (sameValue_of_changes hc _)]

/-- At a lead a change of the values carried queues PAIR_STATE (R112, R139). -/
theorem reshade_queues {s : State} (hlead : s.isLead = true) (hchange : s.reshade.pair.handed ≠ s.pair.handed)
    (hc : ∀ k, 1 ≤ (s.cfg.events.get k).priority) (hs : QueueSorted s) : s.reshade.isQueued .pairState = true := by
  have hd : Changes [.motor, .queue, .latches, .held, .drive] s s.decideTargets := State.decideTargets_changes (.refl _ _) rfl
  let u := s.decideTargets.modPair fun p => { p with handed := s.decideTargets.carriedValues }
  have hne : s.decideTargets.carriedValues ≠ s.decideTargets.pair.handed := by
    rw [hd.pair_handed, ← handCarried_handed]
    exact hchange
  have hreport : s.reshade = u.queueReport .pairState := by
    show s.decideTargets.handCarried = _
    unfold State.handCarried
    rw [if_neg hne]
    exact if_pos ((isLead_congr hd.pair_state).trans hlead)
  have hsorted : QueueSorted u := (linkKept_foldl (fun _ _ => linkKept_decideBank _ _ _) _ s).sorted hs
  have hcfg : (u.queueReport .pairState).cfg = s.cfg :=
    (Changes.cfg (ps := [.queue]) (State.queueReport_changes (.refl _ _) _ rfl)).trans hd.cfg
  rw [hreport]
  exact isQueued_of_queuedIfRoom (queueSorted_queueReport hsorted _) (by rwa [hcfg]) (.inr rfl)
    (queuedIfRoom_queueReport hsorted (.inl rfl))

/-- Settles O38: the two decisions answer as their definitions read, and every step either leaves what they read or decides afresh. -/
theorem lightsAndBlindsFollowTheRoom : Obligations.LightsAndBlindsFollowTheRoom := by
  refine ⟨fun s => ?_, fun s => ?_, fun _ _ hroom h hstep => viewsOk_step hroom h hstep⟩
  · have h := relight_follows s
    unfold State.formTarget State.activeNumber at h
    simp only [sceneOf_eq, sceneOverride_eq, lightTrim_eq] at h
    exact h
  · intro glare policy t
    have hpolicy : policy = s.effectivePolicy := by
      unfold policy State.effectivePolicy
      split
      · rfl
      · match s.currentRecord.bind Session.pref with
        | none => rfl
        | some ⟨_, .noPolicy⟩ => rfl
        | some ⟨_, .openUp⟩ => rfl
        | some ⟨_, .project⟩ => rfl
    clear_value policy
    subst hpolicy
    refine ⟨(reshade_changes s).mono, fun b => ?_, by rw [reshade_handed]; rfl, by rw [reshade_handed]; rfl,
      fun hlead hchange hc hq => reshade_queues hlead hchange hc hq.inOrder⟩
    rw [reshade_held, bankTarget_of_changes (reshade_changes s)]
    cases hsafety : s.lifeSafetyActive with
    | true => exact if_pos hsafety
    | false =>
      cases hr : s.overrides.records.blinds with
      | some r => exact bankTarget_blinds hsafety hr b
      | none =>
        rw [bankTarget_policy hsafety hr, State.policyTarget]
        cases s.room.occupancy <;> rfl

end Sys2Proof.Machine.RoomProofs
end

section
/-! SUPPORT. The PAIR_CTRL and PAIR_STATE entries of the queue: what a request leaves of them, and the message that is sent (R172 to
R174). -/

namespace Sys2Proof.Machine.RoomProofs
open Sys2Proof.Machine.EvidenceProofs

/-! ### One kind's entry -/

theorem isQueued_eq (s : State) (k : ReportKind) : s.isQueued k = (s.entryOf k).isSome :=
  (List.find?_isSome.trans List.any_eq_true.symm |> Bool.eq_iff_iff.mpr).symm

theorem entryOf_congr {s t : State} (h : t.link.queue = s.link.queue) (k : ReportKind) : t.entryOf k = s.entryOf k := by
  unfold State.entryOf
  rw [h]

theorem find_insertEntry_other (c : ConfigRecord) {e : Entry} {k : ReportKind} (h : e.kind ≠ k) :
    ∀ q : List Entry, (insertEntry c e q).find? (fun x => x.kind = k) = q.find? fun x => x.kind = k
  | [] => by simp [insertEntry, h]
  | y :: q => by
    unfold insertEntry
    split
    · simp [h]
    · rw [List.find?_cons, List.find?_cons, find_insertEntry_other c h q]

theorem entryOf_insertReport_other (s : State) {e : Entry} {k : ReportKind} (h : e.kind ≠ k) :
    (s.insertReport e).entryOf k = s.entryOf k := find_insertEntry_other _ h _

theorem entryOf_dropEntry_other (s : State) {j k : ReportKind} (h : j ≠ k) : (s.dropEntry j).entryOf k = s.entryOf k := by
  show List.find? _ (s.link.queue.filter _) = s.link.queue.find? _
  rw [List.find?_filter]
  congr 1
  funext e
  by_cases he : e.kind = k
  · simp [he, h.symm]
  · simp [he]

theorem entryOf_dropEntry_same (s : State) (k : ReportKind) : (s.dropEntry k).entryOf k = none := by
  show List.find? _ (s.link.queue.filter _) = none
  simp

/-- A request of one kind leaves another kind's entry, or evicts it. -/
theorem entryOf_queueWith_other (s : State) {j k : ReportKind} (h : j ≠ k) (m : Option PairMsg) :
    (s.queueWith j m).entryOf k = s.entryOf k ∨
      (urgency s.cfg j < urgency s.cfg k ∧ (s.queueWith j m).entryOf k = none) := by
  unfold State.queueWith
  split
  · refine .inl ?_
    show List.find? _ (s.link.queue.map _) = s.link.queue.find? _
    have hstands : ∀ q : List Entry, (q.map fun e =>
        if e.kind = j then { e with msg := m, requeue := e.requeue || s.inFlight j } else e).find? (fun e => e.kind = k) =
          q.find? fun e => e.kind = k := fun q => by
      induction q with
      | nil => rfl
      | cons e q ih =>
        rw [List.map_cons, List.find?_cons, List.find?_cons, ih]
        by_cases he : e.kind = j <;> simp [he, h]
    exact hstands _
  · unfold State.placeEntry
    split
    · exact .inl (entryOf_insertReport_other s h)
    · split
      next v _ =>
        split
        next hahead =>
          rw [entryOf_insertReport_other _ h]
          by_cases hv : v.kind = k
          · exact .inr ⟨hv ▸ hahead, hv ▸ entryOf_dropEntry_same s _⟩
          · exact .inl (entryOf_dropEntry_other s hv)
        next => exact .inl rfl
      next => exact .inl rfl

/-- A kind that is not queued stays so when another is asked for. -/
theorem isQueued_queueWith_other {s : State} {j k : ReportKind} (h : j ≠ k) (hk : s.isQueued k = false) (m : Option PairMsg) :
    (s.queueWith j m).isQueued k = false := by
  rw [isQueued_eq] at hk ⊢
  rcases entryOf_queueWith_other s h m with he | ⟨-, he⟩
  · rwa [he]
  · rw [he]
    rfl

/-- With no event kind of priority 0, nothing asked for takes the PAIR_CTRL entry's place (R172, R174). -/
theorem entryOf_pairCtrl_queueReport {s : State} (hc : ∀ k, 1 ≤ (s.cfg.events.get k).priority) {j : ReportKind}
    (hj : j ≠ .pairCtrl) :
    (s.queueReport j).entryOf .pairCtrl = s.entryOf .pairCtrl :=
  (entryOf_queueWith_other s hj none).resolve_right fun h => hj (pairCtrl_of_ahead hc (.inl rfl) h.1)

/-! ### The message sent (R173) -/

/-- Every entry of the kind asked for takes the message. -/
theorem msg_of_queueWith {s : State} {k : ReportKind} {m : Option PairMsg} {e : Entry} (he : e ∈ (s.queueWith k m).link.queue)
    (hk : e.kind = k) : e.msg = m := by
  unfold State.queueWith at he
  split at he
  · obtain ⟨x, -, rfl⟩ := List.mem_map.mp he
    split at hk
    next hx => simp [hx]
    next hx => exact absurd hk hx
  next hnot =>
    have hold : e ∈ s.link.queue → e.msg = m := fun hmem => absurd (isQueued_iff.mpr ⟨e, hmem, hk⟩) hnot
    have hnew : ∀ u : State, (∀ x ∈ u.link.queue, x ∈ s.link.queue) → e ∈ (u.insertReport ⟨k, 0, false, m⟩).link.queue →
        e.msg = m := fun u hu hmem => by
      rcases mem_insertEntry.mp hmem with rfl | hmem
      · rfl
      · exact hold (hu e hmem)
    unfold State.placeEntry at he
    split at he
    · exact hnew s (fun _ hx => hx) he
    · split at he
      · split at he
        · exact hnew _ (fun _ hx => (List.mem_filter.mp hx).1) he
        · exact hold he
      · exact hold he

theorem sends_of_isQueued {s : State} {m : PairMsg} (h : (s.queuePairCtrl m).isQueued .pairCtrl = true) :
    Sends (s.queuePairCtrl m) m := by
  rw [isQueued_eq] at h
  obtain ⟨e, he⟩ := Option.isSome_iff_exists.mp h
  have hkind : e.kind = .pairCtrl := by simpa using List.find?_some he
  unfold Sends
  rw [he, Option.map_some, msg_of_queueWith (List.mem_of_find?_eq_some he) hkind]

/-- With room in the queue a message is sent. -/
theorem sends_of_room {s : State} (h : s.link.queue.length < 8) (m : PairMsg) : Sends (s.queuePairCtrl m) m := by
  refine sends_of_isQueued (isQueued_iff.mpr ?_)
  unfold State.queuePairCtrl State.queueWith
  split
  next hq =>
    obtain ⟨e, he, hk⟩ := isQueued_iff.mp hq
    exact ⟨_, List.mem_map_of_mem he, by simp [hk]⟩
  next =>
    unfold State.placeEntry
    rw [if_pos h]
    exact ⟨_, mem_insertEntry.mpr (.inl rfl), rfl⟩

/-- Where no event kind has priority 0, a message is sent whatever else is queued (R172, R174). -/
theorem sends_of_sorted {s : State} (hs : QueueSorted s) (hc : ∀ k, 1 ≤ (s.cfg.events.get k).priority) (m : PairMsg) :
    Sends (s.queuePairCtrl m) m := by
  have hcfg : (s.queuePairCtrl m).cfg = s.cfg :=
    Changes.cfg (ps := [.queue]) (State.queuePairCtrl_changes (.refl _ _) _ rfl)
  have hsorted : QueueSorted (s.queuePairCtrl m) := queueSorted_queueWith hs _ _
  refine sends_of_isQueued (isQueued_of_queuedIfRoom hsorted (by rwa [hcfg]) (.inl rfl) ?_)
  unfold State.queuePairCtrl State.queueWith
  split
  next hq => exact queuedIfRoom_map (fun e => by split <;> rfl) (.inl hq)
  next hq => exact queuedIfRoom_placeEntry hs (Bool.eq_false_iff.mpr hq) (.inl rfl) _

end Sys2Proof.Machine.RoomProofs
end

section
/-! SUPPORT. What the readers of a change and a handling leave of the Pair Unit and of its entries, at a node that is not joined. -/

namespace Sys2Proof.Machine.RoomProofs
open Sys2Proof.Machine.EvidenceProofs

/-! ### The relation -/

/-- What a handling and its readers can change at a node that is not joined: nothing of the Pair Unit but the values handed to it. -/
abbrev asidePair : List Part := [.records, .headcount, .history, .occupancy, .switchMarker] ++ Part.readers

/-- The parts of `asidePair` that reports do not change. -/
abbrev asideReports : List Part :=
  [.records, .headcount, .history, .occupancy, .switchMarker, .dims, .damper, .motor, .airRecord, .grant, .light, .held, .drive, .handed,
    .overrideRecords]

/-- From the first state to the second, the Pair Unit stands, and so do its PAIR_CTRL entry, a PAIR_STATE that is not queued and its
latch. -/
structure PairStands (s t : State) : Prop where
  changes : Changes asidePair s t
  sorted : QueueSorted s → QueueSorted t
  message : (∀ k, 1 ≤ (s.cfg.events.get k).priority) → t.entryOf .pairCtrl = s.entryOf .pairCtrl
  silent : s.isQueued .pairState = false → t.isQueued .pairState = false
  latch : t.link.latches.get .partnerLost = s.link.latches.get .partnerLost

/-- The Pair Unit stands if the node is not joined. -/
def StandsApart (s t : State) : Prop := s.isJoined = false → PairStands s t

theorem pairStands_refl (s : State) : PairStands s s := ⟨.refl _ _, id, fun _ => rfl, id, rfl⟩

theorem pairStands_trans {s t u : State} (h : PairStands s t) (k : PairStands t u) : PairStands s u :=
  ⟨h.changes.trans k.changes, fun hq => k.sorted (h.sorted hq),
    fun hc => (k.message (by rwa [h.changes.cfg])).trans (h.message hc), fun hq => k.silent (h.silent hq), k.latch.trans h.latch⟩

theorem standsApart_refl (s : State) : StandsApart s s := fun _ => pairStands_refl s

theorem standsApart_trans {s t u : State} (h : StandsApart s t) (k : StandsApart t u) : StandsApart s u := fun hs =>
  pairStands_trans (h hs) (k ((isJoined_congr (h hs).changes.pair_state).trans hs))

theorem standsApart_ite {s t u : State} {c : Prop} [Decidable c] (h : StandsApart s t) (k : StandsApart s u) :
    StandsApart s (if c then t else u) := by
  split
  · exact h
  · exact k

theorem standsApart_foldl {α : Type} {f : State → α → State} (hf : ∀ s a, StandsApart s (f s a)) :
    ∀ (l : List α) (s : State), StandsApart s (l.foldl f s)
  | [], s => standsApart_refl s
  | a :: l, s => standsApart_trans (hf s a) (standsApart_foldl hf l _)

theorem standsApart_beside {s t : State} (h : Changes asideReports s t) : StandsApart s t := fun _ =>
  ⟨h.mono, fun hq => queueSorted_congr hq h.link_queue h.cfg, fun _ => entryOf_congr h.link_queue _,
    fun hq => by rwa [isQueued_eq, entryOf_congr h.link_queue, ← isQueued_eq], by rw [h.link_latches]⟩

/-! ### Reports -/

theorem standsApart_queueReport (s : State) {k : ReportKind} (hctrl : k ≠ .pairCtrl) (hstate : k ≠ .pairState) :
    StandsApart s (s.queueReport k) := fun _ =>
  have hc : Changes [.queue] s (s.queueReport k) := State.queueReport_changes (.refl _ _) _ rfl
  ⟨hc.mono, fun hq => queueSorted_queueReport hq k, fun hp => entryOf_pairCtrl_queueReport hp hctrl,
    fun hq => isQueued_queueWith_other hstate hq none, by rw [hc.link_latches]⟩

theorem standsApart_latchEvent (s : State) {d : Detail} (hd : d.kind ≠ .partnerLost) : StandsApart s (s.latchEvent d) := by
  let u := s.setLatch d.kind
    (some (latchOccurrence (s.link.latches.get d.kind) d (s.inFlight (.event d.kind)) (s.statusCarries d.kind)))
  have hset : StandsApart s u := fun _ =>
    ⟨State.setLatch_changes (.refl _ _) _ _ rfl, id, fun _ => rfl, id, PerEvent.get_set_other _ _ (Ne.symm hd)⟩
  unfold State.latchEvent
  dsimp only
  exact standsApart_ite (standsApart_trans hset (standsApart_queueReport u (by simp) (by simp))) hset

/-- A refill queues event kinds alone (R175). -/
theorem pairStands_refill (s : State) : PairStands s s.refill := by
  refine foldl_keeps (P := PairStands s) (fun u k hu => pairStands_trans hu ?_) _ _ (pairStands_refl s)
  unfold State.refillKind
  split
  next h =>
    simp only [Bool.and_eq_true, Bool.not_eq_true'] at h
    obtain ⟨-, hnot⟩ := h
    have hc : Changes [.queue] u (u.insertReport ⟨.event k, 0, false, none⟩) := State.insertReport_changes (.refl _ _) _ rfl
    have hother : ∀ j, ReportKind.event k ≠ j → (u.insertReport ⟨.event k, 0, false, none⟩).entryOf j = u.entryOf j :=
      fun _ hj => entryOf_insertReport_other u hj
    refine ⟨hc.mono, fun hq => queueSorted_insertReport hq fun x hx heq => ?_, fun _ => hother _ nofun, fun hq => ?_,
      by rw [hc.link_latches]⟩
    · rw [isQueued_iff.mpr ⟨x, hx, heq⟩] at hnot
      cases hnot
    · rwa [isQueued_eq, hother .pairState nofun, ← isQueued_eq]
  next => exact pairStands_refl u

/-! ### The Blind Drive -/

theorem standsApart_startMove (s : State) (b : Bank) (t : Target) : StandsApart s (s.startMove b t) := by
  unfold State.startMove
  repeat' split
  · exact standsApart_trans (standsApart_beside (State.setUncertain_changes (.refl _ _) _ _ rfl)) (standsApart_latchEvent _ nofun)
  · exact standsApart_beside (State.runMotor_changes (.refl _ _) _ rfl)
  · exact standsApart_beside (State.runMotor_changes (.refl _ _) _ rfl)

theorem standsApart_grantTurns : ∀ (n : Nat) (s : State), StandsApart s (State.grantTurns n s)
  | 0, s => standsApart_refl s
  | n + 1, s => by
    unfold State.grantTurns
    split
    · exact standsApart_refl s
    · split
      · exact standsApart_refl s
      next b t _ =>
        have hw : StandsApart s (s.setWaiting b none) := standsApart_beside (State.setWaiting_changes (.refl _ _) _ _ rfl)
        exact standsApart_ite (standsApart_trans hw (standsApart_grantTurns n _))
          (standsApart_trans hw (standsApart_trans (standsApart_startMove _ _ _) (standsApart_grantTurns n _)))

theorem standsApart_grant (s : State) : StandsApart s s.grant := standsApart_grantTurns 3 s

theorem standsApart_cutForRequest (s : State) (m : Move) (t : Target) : StandsApart s (s.cutForRequest m t) :=
  standsApart_trans (standsApart_beside (State.keepUnlessThere_changes (State.cutMove_changes (.refl _ _) _ rfl) _ _ rfl))
    (standsApart_grant _)

theorem standsApart_requestMoving (s : State) (m : Move) (t : Target) : StandsApart s (s.requestMoving m t) := by
  unfold State.requestMoving
  repeat' split
  · exact standsApart_cutForRequest s m t
  · exact standsApart_beside (State.modDrive_changes (.refl _ _) _ rfl)
  · exact standsApart_beside (State.modDrive_changes (.refl _ _) _ rfl)
  · exact standsApart_cutForRequest s m t

theorem standsApart_requestStanding (s : State) (b : Bank) (t : Target) : StandsApart s (s.requestStanding b t) := by
  have hw : ∀ x, StandsApart s (s.setWaiting b x) := fun x =>
    standsApart_beside (State.setWaiting_changes (.refl _ _) _ _ rfl)
  unfold State.requestStanding
  repeat' split
  · exact hw _
  · exact standsApart_trans (hw _) (standsApart_trans (standsApart_startMove _ _ _) (standsApart_grant _))
  · exact hw _

theorem standsApart_requestBank (s : State) (b : Bank) (t : Target) : StandsApart s (s.requestBank b t) := by
  unfold State.requestBank
  repeat' split
  · exact standsApart_refl s
  · exact standsApart_requestMoving s _ t
  · exact standsApart_requestStanding s b t
  · exact standsApart_requestStanding s b t

/-! ### The lights, the blinds and the air -/

theorem standsApart_decideBank (s : State) (b : Bank) (t : Option Target) : StandsApart s (s.decideBank b t) := by
  have hh : ∀ x, StandsApart s (s.setHeld b x) := fun x => standsApart_beside (State.setHeld_changes (.refl _ _) _ _ rfl)
  unfold State.decideBank
  repeat' split
  · exact hh _
  · exact standsApart_refl s
  · exact standsApart_trans (hh _) (standsApart_requestBank _ _ _)

/-- A node that is no lead hands the values on without a PAIR_STATE (R112, R139). -/
theorem standsApart_handCarried (s : State) : StandsApart s s.handCarried := fun hj => by
  let u := s.modPair fun p => { p with handed := s.carriedValues }
  have hu : StandsApart s u :=
    standsApart_beside (State.modPair_changes (.refl _ _) (fun p => { p with handed := s.carriedValues }) (by simp) (by simp)
      (by simp) (by simp) (by simp) (by simp) (by simp))
  have hlead : u.isLead = false := (Bool.or_eq_false_iff.mp hj).1
  unfold State.handCarried
  dsimp only
  rw [if_neg (c := u.isLead = true) (by simp [hlead])]
  exact standsApart_ite (standsApart_refl s) hu hj

theorem standsApart_reshade (s : State) : StandsApart s s.reshade :=
  standsApart_trans (standsApart_foldl (fun _ _ => standsApart_decideBank _ _ _) _ s) (standsApart_handCarried _)

theorem standsApart_relight (s : State) : StandsApart s s.relight := standsApart_beside (relight_changes s).mono

theorem standsApart_relightAndShade (s : State) : StandsApart s s.relightAndShade :=
  standsApart_trans (standsApart_relight s) (standsApart_reshade _)

theorem standsApart_evaluate (s : State) : StandsApart s s.evaluate := by
  have hr : StandsApart s (s.holdRecord s.ownRecord).recompute :=
    standsApart_beside (State.recompute_changes (State.holdRecord_changes (.refl _ _) _ rfl) rfl)
  unfold State.evaluate
  dsimp only
  exact standsApart_ite (standsApart_refl s)
    (standsApart_ite (standsApart_trans hr (standsApart_queueReport _ nofun nofun)) hr)

/-! ### The override records -/

theorem standsApart_handToReader (s : State) (q : Quantity) : StandsApart s (s.handToReader q) := by
  cases q with
  | lightScene => exact standsApart_relightAndShade s
  | lightLevel => exact standsApart_trans (standsApart_relight s) (standsApart_handCarried _)
  | blinds => exact standsApart_reshade s
  | airBoost => exact standsApart_evaluate s
  | holdVacant => exact standsApart_evaluate s

theorem standsApart_removeWhere (s : State) (p : OverrideRecord → Bool) : StandsApart s (s.removeWhere p) := by
  refine standsApart_foldl (fun u q => ?_) _ s
  unfold State.removeRecordIf State.removeRecord
  exact standsApart_ite (standsApart_ite (standsApart_trans (standsApart_beside (State.putRecord_changes (.refl _ _) _ _ rfl))
    (standsApart_handToReader _ _)) (standsApart_refl u)) (standsApart_refl u)

/-! ### A handling -/

theorem standsApart_handOff (s : State) (before : Occupancy × Option Nat) : StandsApart s (s.handOff before) := fun hj => by
  have hswitch : StandsApart s s.handSwitch := standsApart_beside (handSwitch_changes s).mono
  have hdrop : ∀ u : State, StandsApart u u.dropStaleIfEmpty := fun u => by
    unfold State.dropStaleIfEmpty
    split
    · exact standsApart_removeWhere u _
    · exact standsApart_removeWhere u _
    · exact standsApart_refl u
  have hread : StandsApart s s.handSwitch.evaluate.relightAndShade.dropStaleIfEmpty :=
    standsApart_trans hswitch (standsApart_trans (standsApart_evaluate _) (standsApart_trans (standsApart_relightAndShade _) (hdrop _)))
  have hlead : s.handSwitch.evaluate.relightAndShade.dropStaleIfEmpty.isLead = false := by
    rw [isLead_congr (hread hj).changes.pair_state]
    exact (Bool.or_eq_false_iff.mp hj).1
  unfold State.handOff
  dsimp only
  rw [if_neg (c := _ = true) (by simp [hlead])]
  exact standsApart_ite hswitch (standsApart_ite hread (standsApart_trans hread (standsApart_queueReport _ nofun nofun))) hj

theorem standsApart_roomVacancy (s : State) : StandsApart s s.roomVacancy := by
  have hset : ∀ (u : State) (o : Occupancy), StandsApart u (u.setOccupancy o) := fun u o =>
    standsApart_beside (State.setOccupancy_changes (.refl _ _) _ rfl)
  unfold State.roomVacancy
  repeat' split
  · exact standsApart_refl s
  · exact standsApart_trans (hset s _) (standsApart_latchEvent _ nofun)
  · exact hset s _
  · exact standsApart_beside (State.setOccupancy_changes (State.clearOverrun_changes (.refl _ _) rfl) _ rfl)
  · exact hset s _
  · exact standsApart_refl s

/-- A node that is not joined forms no combined headcount and reports none to a lead (R29). -/
theorem standsApart_setHeadcount (s : State) (n : Nat) : StandsApart s (s.setHeadcount n) := fun hj => by
  let u := s.modEvidence fun e => { e with headcount := n }
  have hu : StandsApart s u :=
    standsApart_beside (State.modEvidence_changes (.refl _ _) (fun e => { e with headcount := n }) (by simp) (by simp)
      (by simp) (by simp))
  have heval : StandsApart s u.evaluate := standsApart_trans hu (standsApart_evaluate u)
  obtain ⟨hlead, -⟩ := Bool.or_eq_false_iff.mp hj
  have hfollow : u.evaluate.isFollower = false := by
    rw [isFollower_congr (heval hj).changes.pair_state]
    exact (Bool.or_eq_false_iff.mp hj).2
  have hchanged : u.headcountChanged = u.evaluate := by
    unfold State.headcountChanged
    dsimp only
    rw [if_neg (c := u.isLead = true) (Bool.eq_false_iff.mp hlead), if_neg (by simp [hfollow])]
  unfold State.setHeadcount
  rw [show (s.modEvidence fun e => { e with headcount := n }).headcountChanged = _ from hchanged]
  exact standsApart_ite (standsApart_refl s) heval hj

theorem standsApart_declareVacancy (s : State) : StandsApart s s.declareVacancy := by
  rw [declareVacancy_eq]
  exact standsApart_trans (standsApart_setHeadcount s 0)
    (standsApart_trans (standsApart_beside (State.clearHistory_changes (.refl _ _) rfl))
      (standsApart_trans (standsApart_roomVacancy _) (standsApart_handOff _ _)))

theorem standsApart_deferredTest (s : State) : StandsApart s s.deferredTest := by
  unfold State.deferredTest
  repeat' split
  · exact standsApart_refl s
  · exact standsApart_declareVacancy s
  · exact standsApart_declareVacancy s
  · exact standsApart_refl s

/-- What a handling does once its core is over leaves the Pair Unit. -/
theorem standsApart_handling (s : State) (core : State → State) : StandsApart (core s) (s.handling core) := by
  have hoff := standsApart_handOff (core s) s.observed
  unfold State.handling
  exact standsApart_ite (standsApart_trans hoff (standsApart_deferredTest _)) hoff

end Sys2Proof.Machine.RoomProofs
end

section
/-! SUPPORT. What a node keeps and derives when it leaves its role (R68, R142). -/

namespace Sys2Proof.Machine.RoomProofs
open Sys2Proof.Machine.EvidenceProofs

/-! ### The link through the end of a role -/

/-- From the first state to the second, no PAIR_STATE waits any longer; the PAIR_CTRL entry and the latch of the partner's loss stand. -/
structure StatusWithdrawn (s t : State) : Prop where
  sorted : QueueSorted s → QueueSorted t
  message : (∀ k, 1 ≤ (s.cfg.events.get k).priority) → t.entryOf .pairCtrl = s.entryOf .pairCtrl
  silent : t.isQueued .pairState = false
  latch : t.link.latches.get .partnerLost = s.link.latches.get .partnerLost

theorem statusWithdrawn_removeReport (s : State) : StatusWithdrawn s (s.removeReport .pairState) := by
  unfold State.removeReport
  split
  next =>
    have hdrop : ∀ k, k ≠ .pairState → ((s.orphanAttempt .pairState).dropEntry .pairState).entryOf k = s.entryOf k := fun k hk =>
      (entryOf_dropEntry_other _ hk.symm).trans (entryOf_congr rfl k)
    have hc : Changes [.attempt, .queue] s ((s.orphanAttempt .pairState).dropEntry .pairState) :=
      State.dropEntry_changes (State.orphanAttempt_changes (.refl _ _) _ rfl) _ rfl
    have hrefill := pairStands_refill ((s.orphanAttempt .pairState).dropEntry .pairState)
    refine ⟨fun hq => hrefill.sorted (queueSorted_dropEntry (s := s.orphanAttempt .pairState) hq _), fun hp => ?_,
      hrefill.silent ?_, ?_⟩
    · exact (hrefill.message (by rwa [hc.cfg])).trans (hdrop _ nofun)
    · rw [isQueued_eq, entryOf_dropEntry_same]
      rfl
    · rw [hrefill.latch, hc.link_latches]
  next hnot => exact ⟨id, fun _ => rfl, Bool.eq_false_iff.mpr hnot, rfl⟩

/-- What the end of a role does after its first two steps leaves the Pair Unit. -/
theorem pairStands_exitRole (s : State) {r : PairState} (hr : r = .single ∨ r = .partnerLost) :
    PairStands ((s.removeReport .pairState).resetRole r) (s.exitRole r) := by
  have hread : ∀ u : State, StandsApart u u.evaluate.relightAndShade := fun u =>
    standsApart_trans (standsApart_evaluate u) (standsApart_relightAndShade _)
  have hjoined : ((s.removeReport .pairState).resetRole r).isJoined = false := by
    rcases hr with rfl | rfl <;> rfl
  unfold State.exitRole
  dsimp only
  split
  · refine standsApart_trans (standsApart_trans ?_ (standsApart_handling _ _)) (hread _) hjoined
    exact standsApart_beside (State.deriveOwn_changes (.refl _ _) rfl)
  · exact standsApart_trans (standsApart_removeWhere _ _) (hread _) hjoined

theorem statusWithdrawn_exitRole (s : State) {r : PairState} (hr : r = .single ∨ r = .partnerLost) :
    StatusWithdrawn s (s.exitRole r) := by
  have hw := statusWithdrawn_removeReport s
  have hs := pairStands_exitRole s hr
  have hcfg : ((s.removeReport .pairState).resetRole r).cfg = s.cfg :=
    Changes.cfg (ps := [.attempt, .queue, .pairState, .pairTimers, .pairData])
      (State.resetRole_changes (State.removeReport_changes (.refl _ _) _ rfl) r rfl)
  exact ⟨fun hq => hs.sorted (hw.sorted hq), fun hp => (hs.message (by rwa [hcfg])).trans (hw.message hp), hs.silent hw.silent,
    hs.latch.trans hw.latch⟩

/-! ### The room derived at the end of a follower's role (R59, R68) -/

theorem fresh_eq (s : State) : s.fresh = s.evidence.lastEvidence.any fun e => s.now - e < 60000 * s.cfg.vacancyHold := by
  unfold State.fresh
  cases s.evidence.lastEvidence with
  | none => rfl
  | some e => simp [State.holdMs, mins, Nat.mul_comm]

/-- The states that a declaration of vacancy ends (R54). -/
def endsByVacancy : Occupancy → Bool
  | .occupied | .overrun | .adhoc => true
  | _ => false

theorem roomVacancy_stands {s : State} (h : endsByVacancy s.room.occupancy = false) : s.roomVacancy = s := by
  unfold State.roomVacancy
  split
  · rfl
  · cases ho : s.room.occupancy <;> simp_all [endsByVacancy]

/-- The test after a handling leaves the room where every state that vacancy ends has fresh evidence (R36). -/
theorem deferredTest_room {s : State} (h : endsByVacancy s.room.occupancy = true → s.fresh = true) :
    { s.deferredTest.room with switchMarker := false } = { s.room with switchMarker := false } := by
  cases he : s.evidence.lastEvidence with
  | none => rw [deferredTest_quiet he]
  | some e =>
    by_cases hv : VacantSince s e
    · have hfresh : s.fresh = false := by
        unfold State.fresh
        rw [he]
        unfold VacantSince at hv
        simp only [decide_eq_false_iff_not]
        omega
      have hroom : ((s.setHeadcount 0).clearHistory).room = s.room := (emptied_changes s).room
      have hstays : endsByVacancy s.room.occupancy = false := by
        rw [Bool.eq_false_iff]
        exact fun ho => absurd (h ho) (by simp [hfresh])
      rw [deferredTest_vacant he hv, declareVacancy_room, roomVacancy_stands (by rwa [hroom]), hroom]
    · rw [deferredTest_stands he hv]

/-- A handling leaves the room of its core, but for the switch it hands on, where every state that vacancy ends has fresh evidence. -/
theorem handling_room {s : State} {core : State → State}
    (h : endsByVacancy (core s).room.occupancy = true → (core s).fresh = true) :
    { (s.handling core).room with switchMarker := false } = { (core s).room with switchMarker := false } := by
  have hoff : ((core s).handOff s.observed).room = _ := handOff_room _ _
  have hc := handOff_changes (core s) s.observed
  have hfresh : ((core s).handOff s.observed).fresh = (core s).fresh := by
    rw [fresh_eq, fresh_eq, hc.evidence_lastEvidence, hc.now, hc.cfg]
  unfold State.handling State.handle
  dsimp only
  split
  · rw [deferredTest_room (by rw [hoff, hfresh]; exact h), hoff]
  · rw [hoff]

theorem fresh_of_derived {s : State} (h : endsByVacancy (derivedState s) = true) : s.fresh = true := by
  unfold derivedState derivedOccupancy at h
  cases hf : s.fresh with
  | true => rfl
  | false =>
    rw [hf] at h
    repeat' split at h
    all_goals simp_all [endsByVacancy]

theorem derivedState_eq (s : State) :
    derivedState s =
      (let fresh := s.evidence.lastEvidence.any fun e => s.now - e < 60000 * s.cfg.vacancyHold
      if s.clock.timeValid then derivedOccupancy s.clock.minute s.sessions.records.head? fresh
      else if fresh then .adhoc else .vacant) := by
  rw [derivedState, fresh_eq]

theorem derivedOccupancy_markAfresh (minute now : Nat) (first : Option Session) (fresh : Bool) :
    derivedOccupancy minute (first.map (Session.markAfresh now)) fresh = derivedOccupancy minute first fresh := by
  cases first <;> rfl

/-- The room of a former follower (R59, R68): no mirrored session, and what derivation gives from the records with their marks afresh. -/
theorem exitRole_room_of_follower {s : State} (hf : s.isFollower = true) (r : PairState) :
    (s.exitRole r).room.mirroredId = none ∧ (s.exitRole r).room.occupancy = derivedState s ∧
      (s.exitRole r).room.current =
        (if (derivedState s).hasRecord then s.sessions.records.head?.map (·.id) else none) ∧
      (s.exitRole r).sessions.records = s.sessions.records.map (Session.markAfresh s.clock.minute) := by
  let x := s.removeReport .pairState
  let b := ((x.resetRole r).modRoom fun v => { v with mirroredId := none }).markAllAfresh
  let core := fun y : State => (y.resetRole r).deriveOwn
  have hx : Changes [.attempt, .queue] s x := State.removeReport_changes (.refl _ _) _ rfl
  have hb : b.sessions.records = s.sessions.records.map (Session.markAfresh s.clock.minute) := by
    show x.sessions.records.map (Session.markAfresh x.clock.minute) = _
    rw [hx.sessions_records, hx.clock]
  have hfresh : b.fresh = s.fresh := by
    rw [fresh_eq, fresh_eq, show b.evidence = x.evidence from rfl, show b.now = x.now from rfl, show b.cfg = x.cfg from rfl,
      hx.evidence, hx.now, hx.cfg]
  have hderived : derivedState b = derivedState s := by
    unfold derivedState
    rw [hb, hfresh, show b.clock = x.clock from rfl, hx.clock, List.head?_map, derivedOccupancy_markAfresh]
  have hcore : (core x).room = _ := derive_room b
  have hderive : Changes [.occupancy] b (core x) := State.derive_changes (.refl _ _) rfl
  have hhead : b.sessions.records.head?.map (·.id) = s.sessions.records.head?.map (·.id) := by
    rw [hb, List.head?_map]
    cases s.sessions.records.head? <;> rfl
  have hends : endsByVacancy (core x).room.occupancy = true → (core x).fresh = true := fun h => by
    rw [hcore] at h
    rw [fresh_eq, hderive.evidence_lastEvidence, hderive.now, hderive.cfg, ← fresh_eq]
    exact fresh_of_derived h
  have hroom := handling_room hends
  rw [hcore, hderived, hhead] at hroom
  have hexit : Changes Part.readers (x.handling core) (s.exitRole r) := by
    unfold State.exitRole
    dsimp only
    rw [if_pos hf]
    exact State.relightAndShade_changes (State.evaluate_changes (.refl _ _) rfl) rfl
  have hrecords : (x.handling core).sessions.records = b.sessions.records :=
    ((handling_changes_core x core).sessions_records).trans hderive.sessions_records
  rw [hexit.room_mirroredId, hexit.room_occupancy, hexit.room_current, hexit.sessions_records, hrecords, hb]
  exact ⟨congrArg Room.mirroredId hroom, congrArg Room.occupancy hroom, congrArg Room.current hroom, rfl⟩

/-- A former lead keeps its room and its sessions, and loses the partner's records alone (R142). -/
theorem exitRole_of_lead {s : State} (hl : s.isFollower = false) (r : PairState) :
    (s.exitRole r).room = s.room ∧ (s.exitRole r).sessions = s.sessions ∧
      ∀ q, (s.exitRole r).overrides.records.get q = (s.overrides.records.get q).filter fun o => o.source ≠ s.cfg.partner := by
  let x := (s.removeReport .pairState).resetRole r
  have hx : Changes [.attempt, .queue, .pairState, .pairTimers, .pairData] s x :=
    State.resetRole_changes (State.removeReport_changes (.refl _ _) _ rfl) r rfl
  have hdrop : Changes Part.readers x x.dropPartnerRecords := State.dropPartnerRecords_changes (.refl _ _) rfl
  have hexit : Changes [.dims, .damper, .motor, .queue, .latches, .airRecord, .grant, .light, .held, .drive, .handed] x.dropPartnerRecords
      (s.exitRole r) := by
    unfold State.exitRole
    dsimp only
    rw [if_neg (by simp [hl])]
    exact State.relightAndShade_changes (State.evaluate_changes (.refl _ _) rfl) rfl
  refine ⟨by rw [hexit.room, hdrop.room, hx.room], by rw [hexit.sessions, hdrop.sessions, hx.sessions], fun q => ?_⟩
  rw [hexit.overrides_records, State.dropPartnerRecords, removeWhere_get, hx.overrides_records, hx.cfg]
  simp only [decide_not]

/-! ### A joined node leaves its role -/

/-- What comes before the end of a role within its step. -/
structure BeforeExit (s u : State) : Prop where
  changes : Changes [.now, .partition, .pairState, .peers, .queue, .latches] s u
  state : u.pair.state = s.pair.state

/-- The exit of a joined node as the statements have it (R142). -/
theorem pairLeft_exitRole {s u : State} (h : BeforeExit s u) {r : PairState} (hr : r = .single ∨ r = .partnerLost) :
    PairLeft s (u.exitRole r) := by
  have hu := h.changes
  have hstands := (pairStands_exitRole u hr).changes
  refine ⟨hstands.pair_livenessDue, hstands.pair_periodDue, hstands.pair_combined, hstands.pair_followerCount,
    hstands.pair_lastSequence, hstands.pair_evidenceFlag, hstands.pair_forwarded, hstands.pair_sequence,
    (statusWithdrawn_exitRole u hr).silent, fun hl => ?_, fun hf => ?_⟩
  · have hnot : u.isFollower = false := by
      unfold State.isFollower
      rw [h.state, isLead_iff.mp hl]
      rfl
    obtain ⟨hroom, hsessions, hrecords⟩ := exitRole_of_lead hnot r
    refine ⟨hroom.trans hu.room, hsessions.trans hu.sessions, fun q => ?_⟩
    rw [hrecords, hu.overrides_records, hu.cfg]
  · obtain ⟨hmirrored, hoccupancy, hcurrent, hrecords⟩ := exitRole_room_of_follower ((isFollower_congr h.state).trans hf) r
    have hderived := derivedState_eq u
    rw [hu.clock, hu.sessions_records, hu.evidence_lastEvidence, hu.cfg] at hderived
    have hnow : (u.exitRole r).now = u.now := Changes.now (ps := [.attempt, .records, .pairState, .pairTimers] ++ Part.handling)
      (State.exitRole_changes (.refl _ _) r rfl)
    dsimp only
    rw [hrecords, hmirrored, hcurrent, hoccupancy, hnow, hu.clock, hu.sessions_records]
    exact ⟨rfl, rfl, hderived, rfl⟩

/-- What becomes of the offers and of the pair-control message afterwards is no matter. -/
theorem pairLeft_then {s t v : State} (h : PairLeft s t) (hc : Changes [.pairState, .offers, .queue] t v)
    (hq : v.isQueued .pairState = false) : PairLeft s v := by
  unfold PairLeft at h ⊢
  dsimp only at h ⊢
  rw [hc.pair_livenessDue, hc.pair_periodDue, hc.pair_combined, hc.pair_followerCount, hc.pair_lastSequence, hc.pair_evidenceFlag,
    hc.pair_forwarded, hc.pair_sequence, hc.room, hc.sessions, hc.overrides_records, hc.now]
  obtain ⟨hlive, hperiod, hcombined, hcount, hlast, hflag, hforwarded, hsequence, -, hlead, hfollow⟩ := h
  exact ⟨hlive, hperiod, hcombined, hcount, hlast, hflag, hforwarded, hsequence, hq, hlead, hfollow⟩

end Sys2Proof.Machine.RoomProofs
end

section
/-! SUPPORT. Offers, the partition and the liveness timer (R131, R132, R137, R144, R145). -/

namespace Sys2Proof.Machine.RoomProofs
open Sys2Proof.Machine.EvidenceProofs

/-! ### Offering (R132) -/

theorem queuePairCtrl_changes (s : State) (m : PairMsg) : Changes [.queue] s (s.queuePairCtrl m) :=
  State.queuePairCtrl_changes (.refl _ _) m rfl

theorem enterOffering_changes (s : State) : Changes [.pairState, .offers, .queue] s s.enterOffering :=
  State.enterOffering_changes (.refl _ _) rfl

theorem enterOffering_pair (s : State) :
    s.enterOffering.pair = { s.pair with state := .offering, offerCount := 1, offerDue := some (s.now + 10000) } :=
  (queuePairCtrl_changes _ _).pair

theorem sends_enterOffering {s : State} (hs : QueueSorted s) (hc : ∀ k, 1 ≤ (s.cfg.events.get k).priority) :
    Sends s.enterOffering .joinOffer := by
  unfold State.enterOffering
  exact sends_of_sorted (s := s.modPair _) hs hc _

theorem isQueued_enterOffering {s : State} (h : s.isQueued .pairState = false) : s.enterOffering.isQueued .pairState = false := by
  unfold State.enterOffering
  exact isQueued_queueWith_other (s := s.modPair _) (by decide) h _

/-- The offer retry timer offers again in OFFERING. -/
theorem offerAgain_offering {s : State} (h : s.pair.state = .offering) :
    s.offerAgain = (s.modPair fun p =>
      { p with
        offerCount := nextOfferCount p.offerCount
        offerDue := some (s.now + secs (offerInterval (nextOfferCount p.offerCount))) }).queuePairCtrl .joinOffer := by
  unfold State.offerAgain
  rw [h]

/-- The offer retry timer offers again in PARTNER_LOST. -/
theorem offerAgain_lost {s : State} (h : s.pair.state = .partnerLost) :
    s.offerAgain = (s.modPair fun p => { p with offerDue := some (s.now + secs 60) }).queuePairCtrl .joinOffer := by
  unfold State.offerAgain
  rw [h]

/-! ### Becoming SINGLE (R137, R138) -/

theorem becomeSingle_joined {s : State} (h : s.isJoined = true) : s.becomeSingle = s.exitRole .single := if_pos h

theorem becomeSingle_apart {s : State} (h : s.isJoined = false) :
    s.becomeSingle = s.modPair fun p => { p with state := .single, offerDue := none, offerCount := 0 } :=
  if_neg (by simp [h])

theorem readsOpen_exitRole (s : State) {r : PairState} (hr : r = .single ∨ r = .partnerLost) :
    (s.exitRole r).pair.readsOpen = s.pair.readsOpen := by
  have hx : Changes [.attempt, .queue] s (s.removeReport .pairState) := State.removeReport_changes (.refl _ _) _ rfl
  exact (pairStands_exitRole s hr).changes.pair_readsOpen.trans hx.pair_readsOpen

theorem becomeSingle_changes (s : State) :
    Changes ([.attempt, .records, .pairState, .offers, .pairTimers] ++ Part.handling) s s.becomeSingle :=
  State.becomeSingle_changes (.refl _ _) rfl

theorem readsOpen_becomeSingle (s : State) : s.becomeSingle.pair.readsOpen = s.pair.readsOpen := by
  unfold State.becomeSingle
  split
  · exact readsOpen_exitRole s (.inl rfl)
  · rfl

theorem queueSorted_becomeSingle {s : State} (h : QueueSorted s) : QueueSorted s.becomeSingle := by
  unfold State.becomeSingle
  split
  · exact (statusWithdrawn_exitRole s (.inl rfl)).sorted h
  · exact h

/-- The end of a role leaves the message that was to be sent. -/
theorem sends_becomeSingle {s : State} (hc : ∀ k, 1 ≤ (s.cfg.events.get k).priority) {m : PairMsg} (h : Sends s m) :
    Sends s.becomeSingle m := by
  unfold State.becomeSingle
  split
  · rwa [Sends, (statusWithdrawn_exitRole s (.inl rfl)).message hc]
  · exact h

theorem pairLeft_becomeSingle {s u : State} (h : BeforeExit s u) (hj : s.isJoined = true) : PairLeft s u.becomeSingle := by
  rw [becomeSingle_joined ((isJoined_congr h.state).trans hj)]
  exact pairLeft_exitRole h (.inl rfl)

theorem isJoined_of_apart {s : State} (h : s.pair.state = .offering ∨ s.pair.state = .partnerLost) : s.isJoined = false := by
  rcases h with h | h <;> simp [State.isJoined, State.isLead, State.isFollower, h]

/-- A node that offers or has lost its partner stops its offers. -/
theorem offers_becomeSingle {s : State} (h : s.pair.state = .offering ∨ s.pair.state = .partnerLost) :
    s.becomeSingle.pair.offerDue = none ∧ s.becomeSingle.pair.offerCount = 0 ∧ s.becomeSingle.link = s.link ∧
      Changes [.pairState, .offers] s s.becomeSingle := by
  rw [becomeSingle_apart (isJoined_of_apart h)]
  exact ⟨rfl, rfl, rfl, State.modPair_changes (.refl _ _) _ (.inl rfl) (.inr fun _ => rfl) (.inl rfl) (.inr fun _ => ⟨rfl, rfl⟩)
    (.inr fun _ => ⟨rfl, rfl, rfl, rfl, rfl, rfl⟩) (.inr fun _ => rfl) (.inr fun _ => rfl)⟩

/-! ### The partition (R131) -/

/-- The state once the debounce has taken the raw reading. -/
def partitionRead (s : State) : State := s.modPair fun p => { p with debounceDue := none, readsOpen := s.pins.partOpen }

theorem settlePartition_same {s : State} (h : s.pins.partOpen = s.pair.readsOpen) : s.settlePartition = partitionRead s :=
  if_pos h

theorem settlePartition_opened {s : State} (hopen : s.pins.partOpen = true) (hold : s.pair.readsOpen = false) :
    s.settlePartition = (partitionRead s).partitionOpened :=
  (if_neg (by simp [hopen, hold])).trans (if_pos hopen)

theorem settlePartition_closed {s : State} (hclosed : s.pins.partOpen = false) (hold : s.pair.readsOpen = true) :
    s.settlePartition = (partitionRead s).partitionClosed :=
  (if_neg (by simp [hclosed, hold])).trans (if_neg (by simp [hclosed]))

theorem partitionOpened_offers {s : State} (hd : s.isDivisible = true) (hs : s.pair.state = .single) :
    s.partitionOpened = s.enterOffering := if_pos ⟨hd, hs⟩

theorem partitionClosed_leaves {s : State} (h : s.pair.state ≠ .single) :
    s.partitionClosed = (s.queuePairCtrl .joinLeave).becomeSingle := if_neg h

/-- What follows the reading leaves it, and the stopped timer. -/
theorem settlePartition_reads (s : State) :
    s.settlePartition.pair.debounceDue = none ∧ s.settlePartition.pair.readsOpen = s.pins.partOpen := by
  have hopened : ∀ u : State,
      u.partitionOpened.pair.debounceDue = u.pair.debounceDue ∧ u.partitionOpened.pair.readsOpen = u.pair.readsOpen := fun u => by
    unfold State.partitionOpened
    split
    · rw [enterOffering_pair]
      exact ⟨rfl, rfl⟩
    · exact ⟨rfl, rfl⟩
  have hclosed : ∀ u : State,
      u.partitionClosed.pair.debounceDue = u.pair.debounceDue ∧ u.partitionClosed.pair.readsOpen = u.pair.readsOpen := fun u => by
    unfold State.partitionClosed
    split
    · exact ⟨rfl, rfl⟩
    · rw [readsOpen_becomeSingle, (becomeSingle_changes _).pair_debounceDue, (queuePairCtrl_changes _ _).pair]
      exact ⟨rfl, rfl⟩
  unfold State.settlePartition
  dsimp only
  split
  · exact ⟨rfl, rfl⟩
  · split
    · exact hopened (partitionRead s)
    · exact hclosed (partitionRead s)

/-- A node that reads CLOSED afresh leaves any state but SINGLE with a JOIN_LEAVE (R137, R142). -/
theorem partitionClosed_acts {s u : State} (h : Changes [.now, .partition, .pairState] s u) (hstate : u.pair.state = s.pair.state)
    (hs : s.pair.state ≠ .single) :
    u.partitionClosed.pair.state = .single ∧
      (s.pair.state = .offering →
        u.partitionClosed.pair.offerDue = none ∧ u.partitionClosed.pair.offerCount = 0 ∧
        (s.link.queue.length < 8 → Sends u.partitionClosed .joinLeave) ∧
        Changes [.now, .partition, .pairState, .offers, .queue] s u.partitionClosed) ∧
      (MaySendPairCtrl s → Sends u.partitionClosed .joinLeave) ∧
      (s.pair.state = .partnerLost → u.partitionClosed.pair.offerDue = none ∧ u.partitionClosed.pair.offerCount = 0) ∧
      (s.isJoined = true → PairLeft s u.partitionClosed) := by
  rw [partitionClosed_leaves (by rwa [hstate])]
  obtain ⟨w, hw⟩ : ∃ w, w = u.queuePairCtrl .joinLeave := ⟨_, rfl⟩
  have hq : Changes [.queue] u w := hw ▸ queuePairCtrl_changes u _
  have hws : w.pair.state = s.pair.state := hq.pair_state.trans hstate
  have hbefore : BeforeExit s w := ⟨h.mono.then hq, hws⟩
  rw [← hw]
  refine ⟨pair_state_becomeSingle w, fun ho => ?_, fun hmay => ?_, fun hl => ?_, pairLeft_becomeSingle hbefore⟩
  · obtain ⟨hdue, hcount, hlink, hc⟩ := offers_becomeSingle (s := w) (.inl (hws.trans ho))
    refine ⟨hdue, hcount, fun hlen => ?_, (h.mono.then hq).then hc⟩
    rw [Sends, entryOf_congr (s := w) (congrArg Link.queue hlink), hw]
    exact sends_of_room (by rwa [h.link_queue]) _
  · refine sends_becomeSingle (by rw [hq.cfg, h.cfg]; exact hmay.2) ?_
    rw [hw]
    exact sends_of_sorted (queueSorted_congr hmay.1.inOrder h.link_queue h.cfg) (by rw [h.cfg]; exact hmay.2) _
  · obtain ⟨hdue, hcount, -, -⟩ := offers_becomeSingle (s := w) (.inr (hws.trans hl))
    exact ⟨hdue, hcount⟩

/-- Settles O47: a change starts the debounce, and its expiry takes the reading and what it calls for. -/
theorem thePartitionIsDebounced : Obligations.ThePartitionIsDebounced := by
  refine ⟨fun s o hrun hne => ?_, fun s due hrun hdue => ?_⟩
  · let a := s.modPins fun p => { p with partOpen := o }
    let t := a.modPair fun p => { p with debounceDue := some (a.now + secs 5) }
    have ha : Changes [.pins, .partition] s a := State.modPins_changes (.refl _ _) _ rfl
    have hexec : exec (.partChange o) s = .next t :=
      congrArg Host.Outcome.next ((if_neg hne).trans (whileRunning_of_running (s := a) hrun _))
    exact ⟨t, hexec, rfl, rfl, State.modPair_changes ha _ (.inr fun _ => ⟨rfl, rfl⟩) (.inl rfl) (.inr fun _ => ⟨rfl, rfl⟩)
      (.inr fun _ => ⟨rfl, rfl⟩) (.inr fun _ => ⟨rfl, rfl, rfl, rfl, rfl, rfl⟩) (.inr fun _ => rfl) (.inr fun _ => rfl)⟩
  · let a := s.advanceTo due
    have hexec : exec .debounceExpiry s = .next a.settlePartition :=
      congrArg _ (onExpiry_running hrun (timer := fun x => x.pair.debounceDue) hdue _)
    have hread : Changes [.now, .partition, .pairState] s (partitionRead a) :=
      State.modPair_changes (State.advanceTo_changes (.refl _ _) _ rfl) _ (.inl rfl) (.inl rfl) (.inr fun _ => ⟨rfl, rfl⟩)
        (.inr fun _ => ⟨rfl, rfl⟩) (.inr fun _ => ⟨rfl, rfl, rfl, rfl, rfl, rfl⟩) (.inr fun _ => rfl) (.inr fun _ => rfl)
    have hnow : a.settlePartition.now = max s.now due :=
      Changes.now (ps := [.attempt, .records, .pairState, .partition, .offers, .pairTimers] ++ Part.handling)
        (State.settlePartition_changes (s := a) (.refl _ _) rfl)
    obtain ⟨hstopped, hreads⟩ := settlePartition_reads a
    refine ⟨a.settlePartition, hexec, hnow, hstopped, hreads, fun hsame => ?_, fun hopen hold hs hd => ?_,
      fun hclosed hold hs => ?_⟩
    · rw [settlePartition_same (s := a) hsame]
      intro p hp
      by_cases hstate : p = .pairState
      · rw [hstate]
        exact ⟨rfl, hsame⟩
      · exact hread p (by simp_all)
    · rw [hnow, settlePartition_opened (s := a) hopen hold, partitionOpened_offers (s := partitionRead a) hd hs, enterOffering_pair]
      refine ⟨rfl, rfl, rfl, fun hlen => ?_, hread.mono.then (enterOffering_changes _)⟩
      unfold State.enterOffering
      exact sends_of_room (by exact hlen) _
    · rw [settlePartition_closed (s := a) hclosed hold]
      exact partitionClosed_acts hread rfl hs

end Sys2Proof.Machine.RoomProofs
end

section
/-! SUPPORT. The offer retry timer and the liveness timer (R132, R144, R145). -/

namespace Sys2Proof.Machine.RoomProofs
open Sys2Proof.Machine.EvidenceProofs

theorem secs_offerInterval (n : Nat) : secs (offerInterval n) = if n ≤ 2 then 10000 else 60000 := by
  unfold offerInterval
  split <;> rfl

/-- The offer retry timer offers again as the pair state has it (R132, R145). -/
theorem offerAgain_acts {s a : State} (h : Changes [.now] s a) :
    Changes [.now, .offers, .queue] s a.offerAgain ∧
      (s.pair.state = .offering →
        a.offerAgain.pair.offerCount = min 255 (s.pair.offerCount + 1) ∧
        a.offerAgain.pair.offerDue = some (a.now + if a.offerAgain.pair.offerCount ≤ 2 then 10000 else 60000)) ∧
      (s.pair.state = .partnerLost →
        a.offerAgain.pair.offerDue = some (a.now + 60000) ∧ a.offerAgain.pair.offerCount = s.pair.offerCount) ∧
      (s.pair.state = .offering ∨ s.pair.state = .partnerLost → s.link.queue.length < 8 → Sends a.offerAgain .joinOffer) := by
  have hpair : a.pair = s.pair := h.pair
  have hlength : s.link.queue.length < 8 → a.link.queue.length < 8 := by rw [h.link_queue]; exact id
  refine ⟨State.offerAgain_changes h.mono rfl, fun ho => ?_, fun hl => ?_, ?_⟩
  · rw [offerAgain_offering (by rw [hpair]; exact ho), (queuePairCtrl_changes _ _).pair]
    exact ⟨by rw [← hpair]; rfl, congrArg (fun n => some (a.now + n)) (secs_offerInterval _)⟩
  · rw [offerAgain_lost (by rw [hpair]; exact hl), (queuePairCtrl_changes _ _).pair, ← hpair]
    exact ⟨rfl, rfl⟩
  · rintro (hs | hs) hlen
    · rw [offerAgain_offering (by rw [hpair]; exact hs)]
      exact sends_of_room (s := a.modPair _) (hlength hlen) _
    · rw [offerAgain_lost (by rw [hpair]; exact hs)]
      exact sends_of_room (s := a.modPair _) (hlength hlen) _

/-- A joined node that has lost its partner leaves its role for PARTNER_LOST, with its event and the 60 s offer timer (R144, R145). -/
theorem losePartner_acts {s a : State} (h : Changes [.now] s a) :
    a.losePartner.now = a.now ∧ a.losePartner.pair.state = .partnerLost ∧ a.losePartner.pair.offerDue = some (a.now + 60000) ∧
      a.losePartner.pair.offerCount = 0 ∧ PairLeft s a.losePartner ∧ Latched s a.losePartner (.partnerLost s.cfg.partner) := by
  obtain ⟨u, hu⟩ : ∃ u, u = a.latchEvent (.partnerLost a.cfg.partner) := ⟨_, rfl⟩
  obtain ⟨t, ht⟩ : ∃ t, t = u.exitRole .partnerLost := ⟨_, rfl⟩
  have hlatch : Changes [.queue, .latches] a u := hu ▸ State.latchEvent_changes (.refl _ _) _ rfl
  have hbefore : BeforeExit s u := ⟨h.mono.then hlatch, hlatch.pair_state.trans h.pair_state⟩
  have hexit : Changes ([.attempt, .records, .pairState, .pairTimers] ++ Part.handling) u t :=
    ht ▸ State.exitRole_changes (.refl _ _) _ rfl
  have hwithdrawn : StatusWithdrawn u t := ht ▸ statusWithdrawn_exitRole u (.inr rfl)
  have heq : a.losePartner = t.modPair fun p => { p with offerDue := some (a.now + secs 60), offerCount := 0 } := by
    unfold State.losePartner
    rw [ht, hu]
  have hnow : t.now = a.now := hexit.now.trans hlatch.now
  have hoffers : Changes [.pairState, .offers, .queue] t a.losePartner := by
    rw [heq]
    exact State.modPair_changes (.refl _ _) _ (.inl rfl) (.inr fun _ => rfl) (.inl rfl) (.inr fun _ => ⟨rfl, rfl⟩)
      (.inr fun _ => ⟨rfl, rfl, rfl, rfl, rfl, rfl⟩) (.inr fun _ => rfl) (.inr fun _ => rfl)
  have hleft : PairLeft s t := ht ▸ pairLeft_exitRole hbefore (.inr rfl)
  refine ⟨hoffers.now.trans hnow, ?_, ?_, by rw [heq]; rfl, pairLeft_then hleft hoffers ?_, ?_⟩
  · rw [heq]
    show t.pair.state = _
    rw [ht, pair_state_exitRole]
  · rw [heq]
    rfl
  · rw [heq]
    exact hwithdrawn.silent
  · refine latched_widen (u := a) (v := u) ?_ (by rw [h.link_latches]) h.link_attempt ?_
    · rw [hu, h.cfg]
      exact latched_latchEvent a _
    · rw [hoffers.link_latches]
      exact hwithdrawn.latch

/-- Settles O48: the two timers of a node without its partner. -/
theorem offersRepeatAndLivenessEnds : Obligations.OffersRepeatAndLivenessEnds := by
  refine ⟨fun s due hrun hdue => ?_, fun s due hrun _ hdue => ?_⟩
  · have ha : Changes [.now] s (s.advanceTo due) := State.advanceTo_changes (.refl _ _) _ rfl
    have hexec : exec .offerRetryExpiry s = .next (s.advanceTo due).offerAgain :=
      congrArg _ (onExpiry_running hrun (timer := fun x => x.pair.offerDue) hdue _)
    have hnow : (s.advanceTo due).offerAgain.now = (s.advanceTo due).now :=
      Changes.now (ps := [.offers, .queue]) (State.offerAgain_changes (.refl _ _) rfl)
    have hacts := offerAgain_acts ha
    rw [← hnow] at hacts
    exact ⟨_, hexec, hnow, hacts⟩
  · have hexec : exec .livenessExpiry s = .next (s.advanceTo due).losePartner :=
      congrArg Host.Outcome.next (onExpiry_running hrun (timer := fun x => x.pair.livenessDue) hdue State.losePartner)
    obtain ⟨hnow, hstate, hoffer, hcount, hleft, hlatched⟩ :=
      losePartner_acts (s := s) (a := s.advanceTo due) (State.advanceTo_changes (.refl _ _) _ rfl)
    exact ⟨_, hexec, hnow, hstate, by rw [hoffer, hnow], hcount, hleft, hlatched⟩

end Sys2Proof.Machine.RoomProofs
end

section
/-! SUPPORT. The control messages of the partner (R134, R135, R136, R138, R142). -/

namespace Sys2Proof.Machine.RoomProofs
open Sys2Proof.Machine.EvidenceProofs

/-! ### The partner in the Peer Table (R166, R167) -/

theorem mem_foldl_longerSilent (s : State) : ∀ (l : List Peer) (best : Option Peer) {v : Peer},
    l.foldl s.longerSilent best = some v → v ∈ l ∨ best = some v
  | [], _, _, h => .inr h
  | p :: l, best, v, h => by
    rcases mem_foldl_longerSilent s l _ h with hv | hv
    · exact .inl (List.mem_cons_of_mem _ hv)
    · unfold State.longerSilent at hv
      repeat' split at hv
      · exact .inl (by simp_all)
      · exact .inl (by simp_all)
      · exact .inr hv

theorem mem_of_evictee {s : State} {v : Peer} (h : s.evictee = some v) : v ∈ s.peers := by
  rcases mem_foldl_longerSilent s _ _ h with hv | hv
  · exact (List.mem_filter.mp hv).1
  · cases hv

/-- The partner's own frame never evicts the partner's record. -/
theorem losesPartnerMax_partner (s : State) : s.losesPartnerMax s.cfg.partner = false := by
  unfold State.losesPartnerMax
  cases hv : s.evictedBy s.cfg.partner with
  | none => rfl
  | some v =>
    unfold State.evictedBy at hv
    split at hv
    · cases hv
    next hnone =>
      obtain ⟨habsent, -⟩ := not_or.mp hnone
      simp only [List.any_eq_true, decide_eq_true_eq, not_exists, not_and] at habsent
      simpa using habsent v (mem_of_evictee hv)

theorem recordPeer_partner (s : State) : s.recordPeer s.cfg.partner = s.withPeers (s.peersAfter s.cfg.partner) := by
  unfold State.recordPeer
  rw [losesPartnerMax_partner]
  rfl

theorem recordPeer_partner_changes {s : State} {f : Frame} (h : f.src.toNat = s.cfg.partner) :
    Changes [.peers] s (s.recordPeer f.src.toNat) := by
  rw [h, recordPeer_partner]
  exact State.withPeers_changes (.refl _ _) _ rfl

theorem mem_insertPeer_self (p : Peer) : ∀ l : List Peer, p ∈ insertPeer p l
  | [] => List.mem_cons_self
  | x :: l => by
    unfold insertPeer
    split
    · exact List.mem_cons_self
    · exact List.mem_cons_of_mem _ (mem_insertPeer_self p l)

/-- A frame's source is held afterwards if it was, or if the table has room (R166). -/
theorem held_peersAfter {s : State} {address : Nat} (h : (∃ p ∈ s.peers, p.address = address) ∨ s.peers.length < 48) :
    ∃ p ∈ s.peersAfter address, p.address = address := by
  unfold State.peersAfter
  split
  next hany =>
    obtain ⟨p, hp, ha⟩ := List.any_eq_true.mp hany
    refine ⟨_, List.mem_map_of_mem hp, ?_⟩
    split <;> simpa using ha
  next hany =>
    have hlen : s.peers.length < 48 := h.resolve_left fun ⟨p, hp, ha⟩ => hany (List.any_eq_true.mpr ⟨p, hp, by simpa using ha⟩)
    rw [if_pos hlen]
    exact ⟨_, mem_insertPeer_self _ _, rfl⟩

theorem writePartnerMax_changes (s : State) (m : Nat) :
    Changes [.damper, .queue, .peers, .airRecord, .grant] s (s.writePartnerMax m) :=
  State.writePartnerMax_changes (.refl _ _) m rfl

/-- The M_max of the partner's frame is written once its source is recorded. -/
theorem partnerMaxWritten_of_frame {s t : State} {m : Nat}
    (h : t.peers = ((s.recordPeer s.cfg.partner).writePartnerMax m).peers) : PartnerMaxWritten s t m := by
  intro hheld
  obtain ⟨p, hp, ha⟩ := held_peersAfter hheld
  have hpeers : t.peers = (s.peersAfter s.cfg.partner).map fun p =>
      if p.address = s.cfg.partner then { p with pairPart := some m } else p := by
    rw [h, recordPeer_partner]
    exact (evaluate_changes _).peers
  rw [hpeers]
  exact ⟨_, List.mem_map_of_mem hp, by rw [if_pos ha]; exact ⟨ha, rfl⟩⟩

/-! ### Whose frame it is (R130) -/

theorem fromPartner_recordPeer (s : State) (f : Frame) :
    (s.recordPeer f.src.toNat).fromPartner f.src.toNat = s.fromPartner f.src.toNat := by
  have hc : Changes [.peers, .airRecord, .grant, .damper, .queue] s (s.recordPeer f.src.toNat) :=
    State.recordPeer_changes (.refl _ _) _ rfl
  unfold State.fromPartner State.isDivisible
  rw [hc.cfg]

theorem fromPartner_of {s : State} {f : Frame} (hd : s.isDivisible = true) (hp : f.src.toNat = s.cfg.partner) :
    s.fromPartner f.src.toNat = true := by
  simp [State.fromPartner, hd, hp]

theorem fromPartner_of_elsewhere {s : State} {f : Frame} (h : s.isDivisible = false ∨ f.src.toNat ≠ s.cfg.partner) :
    s.fromPartner f.src.toNat = false := by
  rcases h with h | h <;> simp [State.fromPartner, h]

theorem exec_joinAccept {s : State} {f : Frame} {m : Nat} (h : Taken s f 3) (hm : decodeJoinAccept f.payload = some m) :
    exec (.joinAccept f) s =
      .next (if s.fromPartner f.src.toNat then ((s.recordPeer f.src.toNat).writePartnerMax m).takeAccept
        else s.recordPeer f.src.toNat) := by
  refine congrArg Host.Outcome.next ((receive_taken h 0x11 _).trans ?_)
  rw [fromPartner_recordPeer, hm]
  cases s.fromPartner f.src.toNat <;> rfl

theorem exec_joinRefuse {s : State} {f : Frame} (h : Taken s f 3) :
    exec (.joinRefuse f) s =
      .next (if s.fromPartner f.src.toNat then (s.recordPeer f.src.toNat).takeRefuse else s.recordPeer f.src.toNat) := by
  refine congrArg Host.Outcome.next ((receive_taken h 0x12 _).trans ?_)
  rw [fromPartner_recordPeer]

theorem exec_joinLeave {s : State} {f : Frame} (h : Taken s f 3) :
    exec (.joinLeave f) s =
      .next (if s.fromPartner f.src.toNat then (s.recordPeer f.src.toNat).takeLeave else s.recordPeer f.src.toNat) := by
  refine congrArg Host.Outcome.next ((receive_taken h 0x13 _).trans ?_)
  rw [fromPartner_recordPeer]

/-! ### Entering a role (R136) -/

theorem role_eq (s : State) : s.role = roleOf s.cfg := rfl

/-- The pair once a role is entered: the timers of the role, no offers, and at a lead the headcounts formed. -/
theorem enterRole_pair (s : State) (n : Nat) :
    (s.enterRole n).pair.state = roleOf s.cfg ∧ (s.enterRole n).pair.livenessDue = some (s.now + 90000) ∧
      (s.enterRole n).pair.periodDue = some (s.now + 30000) ∧ (s.enterRole n).pair.offerDue = none ∧
      (s.enterRole n).pair.offerCount = 0 ∧
      (roleOf s.cfg = .joinedLead →
        (s.enterRole n).pair.followerCount = n ∧ (s.enterRole n).pair.combined = min 511 (s.evidence.headcount + n)) := by
  have hread : ∀ u : State,
      Changes [.dims, .damper, .motor, .queue, .latches, .airRecord, .grant, .light, .held, .drive, .handed] u
        (u.evaluate.relightAndShade.queueReport .pairState) := fun u =>
    State.queueReport_changes (State.relightAndShade_changes (State.evaluate_changes (.refl _ _) rfl) rfl) _ rfl
  unfold State.enterRole
  dsimp only
  rw [role_eq]
  split
  next hl =>
    have hc := hread ((s.takeRole .joinedLead).leadItems n)
    rw [hc.pair_state, hc.pair_livenessDue, hc.pair_periodDue, hc.pair_offerDue, hc.pair_offerCount, hc.pair_followerCount,
      hc.pair_combined, hl]
    exact ⟨rfl, rfl, rfl, rfl, rfl, fun _ => ⟨rfl, rfl⟩⟩
  next hf =>
    have hfollow : roleOf s.cfg = .joinedFollow := by
      unfold roleOf at hf ⊢
      split at hf
      · exact absurd rfl hf
      next h => exact if_neg h
    obtain ⟨u, hu⟩ : ∃ u, u = s.handling fun x => (x.takeRole .joinedFollow).followItems x.ownMirror := ⟨_, rfl⟩
    have hh := handling_changes_core s fun x => (x.takeRole .joinedFollow).followItems x.ownMirror
    rw [← hu] at hh ⊢
    have hc := hread u
    rw [hc.pair_state, hc.pair_livenessDue, hc.pair_periodDue, hc.pair_offerDue, hc.pair_offerCount, hh.pair_state,
      hh.pair_livenessDue, hh.pair_periodDue, hh.pair_offerDue, hh.pair_offerCount, hfollow]
    exact ⟨rfl, rfl, rfl, rfl, rfl, nofun⟩

/-! ### The three messages -/

theorem takeAccept_offering {s : State} (h : s.pair.state = .offering ∨ s.pair.state = .partnerLost) :
    s.takeAccept = s.enterRole 0 := by
  unfold State.takeAccept
  rcases h with h | h <;> rw [h]

theorem takeAccept_joined {s : State} (h : s.isJoined = true) : s.takeAccept = s.restartLiveness := by
  rw [State.isJoined, Bool.or_eq_true, isLead_iff, isFollower_iff] at h
  unfold State.takeAccept
  rcases h with h | h <;> rw [h]

theorem takeAccept_single {s : State} (h : s.pair.state = .single) : s.takeAccept = s := by
  unfold State.takeAccept
  rw [h]

/-- A JOIN_ACCEPT at a node whose M_max of the partner is written (R134, R136). -/
theorem takeAccept_acts {s v : State} (hpair : v.pair = s.pair) (hnow : v.now = s.now) (hcfg : v.cfg = s.cfg)
    (hcount : v.evidence.headcount = s.evidence.headcount) :
    (s.pair.state = .single → v.takeAccept.pair = s.pair) ∧
      (s.isJoined = true → v.takeAccept.pair = { s.pair with livenessDue := some (s.now + 90000) }) ∧
      (s.pair.state = .offering ∨ s.pair.state = .partnerLost →
        v.takeAccept.pair.state = roleOf s.cfg ∧ v.takeAccept.pair.livenessDue = some (s.now + 90000) ∧
        v.takeAccept.pair.periodDue = some (s.now + 30000) ∧ v.takeAccept.pair.offerDue = none ∧
        v.takeAccept.pair.offerCount = 0 ∧
        (roleOf s.cfg = .joinedLead →
          v.takeAccept.pair.followerCount = 0 ∧ v.takeAccept.pair.combined = min 511 s.evidence.headcount)) := by
  rw [← hpair, ← hnow, ← hcfg, ← hcount]
  refine ⟨fun hs => by rw [takeAccept_single hs], fun hj => ?_, fun ho => ?_⟩
  · rw [takeAccept_joined ((isJoined_congr (congrArg Pair.state hpair)).trans hj)]
    rfl
  · rw [takeAccept_offering ho]
    exact enterRole_pair v 0

theorem takeRefuse_mismatch {s : State} (h : s.pair.state = .offering ∨ s.pair.state = .partnerLost) :
    s.takeRefuse = s.latchEvent (.partitionMismatch s.cfg.partner s.pair.readsOpen) := by
  unfold State.takeRefuse
  rcases h with h | h <;> rw [h] <;> rfl

theorem takeRefuse_stands {s : State} (ho : s.pair.state ≠ .offering) (hl : s.pair.state ≠ .partnerLost) : s.takeRefuse = s := by
  unfold State.takeRefuse
  split
  next h => exact absurd h ho
  next h => exact absurd h hl
  next => rfl

theorem takeLeave_stands {s : State} (h : s.pair.state = .single ∨ s.pair.state = .offering) : s.takeLeave = s := by
  unfold State.takeLeave
  rcases h with h | h <;> rw [h]

theorem takeLeave_leaves {s : State} (h : s.isJoined = true ∨ s.pair.state = .partnerLost) :
    s.takeLeave = if s.pair.readsOpen then s.becomeSingle.enterOffering else s.becomeSingle := by
  rw [State.isJoined, Bool.or_eq_true, isLead_iff, isFollower_iff] at h
  rw [← readsOpen_becomeSingle s]
  unfold State.takeLeave
  rcases h with (h | h) | h <;> rw [h]

/-- A JOIN_LEAVE at a joined node and at one that has lost its partner (R138, R142). -/
theorem takeLeave_acts {s u : State} (h : Changes [.peers] s u) (hs : s.isJoined = true ∨ s.pair.state = .partnerLost) :
    (u.takeLeave.pair.readsOpen = s.pair.readsOpen ∧
      (s.pair.readsOpen = true →
        u.takeLeave.pair.state = .offering ∧ u.takeLeave.pair.offerCount = 1 ∧
        u.takeLeave.pair.offerDue = some (s.now + 10000) ∧ (MaySendPairCtrl s → Sends u.takeLeave .joinOffer)) ∧
      (s.pair.readsOpen = false → u.takeLeave.pair.state = .single) ∧
      (s.pair.readsOpen = false → s.pair.state = .partnerLost →
        u.takeLeave.pair.offerDue = none ∧ u.takeLeave.pair.offerCount = 0)) ∧
      (s.isJoined = true → PairLeft s u.takeLeave) := by
  have hpair : u.pair = s.pair := h.pair
  have hjoined : u.isJoined = s.isJoined := isJoined_congr h.pair_state
  obtain ⟨v, hv⟩ : ∃ v, v = u.becomeSingle := ⟨_, rfl⟩
  have hc : Changes ([.attempt, .records, .pairState, .offers, .pairTimers] ++ Part.handling) u v := hv ▸ becomeSingle_changes u
  have hstate : v.pair.state = .single := hv ▸ pair_state_becomeSingle u
  have hreads : v.pair.readsOpen = s.pair.readsOpen := by rw [hv, readsOpen_becomeSingle, hpair]
  have hleft : s.isJoined = true → PairLeft s v := fun hj => hv ▸ pairLeft_becomeSingle ⟨h.mono, h.pair_state⟩ hj
  rw [takeLeave_leaves (by rwa [hjoined, hpair]), hpair, ← hv]
  cases hopen : s.pair.readsOpen with
  | true =>
    rw [if_pos rfl]
    refine ⟨⟨?_, fun _ => ?_, nofun, nofun⟩, fun hj => ?_⟩
    · rw [enterOffering_pair]
      exact hreads.trans hopen
    · rw [enterOffering_pair]
      refine ⟨rfl, rfl, by rw [hc.now, h.now], fun hmay => sends_enterOffering ?_ (by rw [hc.cfg, h.cfg]; exact hmay.2)⟩
      rw [hv]
      exact queueSorted_becomeSingle (queueSorted_congr hmay.1.inOrder h.link_queue h.cfg)
    · have hsilent : v.isQueued .pairState = false := by
        obtain ⟨-, -, -, -, -, -, -, -, hsilent, -, -⟩ := hleft hj
        exact hsilent
      exact pairLeft_then (hleft hj) (enterOffering_changes v) (isQueued_enterOffering hsilent)
  | false =>
    rw [if_neg nofun]
    refine ⟨⟨hreads.trans hopen, nofun, fun _ => hstate, fun _ hl => ?_⟩, hleft⟩
    obtain ⟨hdue, hcount, -, -⟩ := offers_becomeSingle (s := u) (.inr (h.pair_state.trans hl))
    rw [hv]
    exact ⟨hdue, hcount⟩

/-- Settles O50: the three messages act by the pair state at the partner's frames, and not at all at frames from elsewhere. -/
theorem acceptsRefusalsAndLeavesAreTaken : Obligations.AcceptsRefusalsAndLeavesAreTaken := by
  refine ⟨fun f s m h hm => ⟨_, exec_joinAccept h hm, fun hnot => ?_, fun hd hp => ?_⟩,
    fun f s h hd hp => ⟨_, exec_joinRefuse h, ?_⟩, fun f s h hd hp => ⟨_, exec_joinLeave h, ?_⟩, fun f s h hnot => ?_⟩
  · rw [if_neg (by simp [fromPartner_of_elsewhere hnot])]
    exact State.recordPeer_changes_recordingParts s f
  · rw [if_pos (fromPartner_of hd hp)]
    obtain ⟨v, hv⟩ : ∃ v, v = (s.recordPeer f.src.toNat).writePartnerMax m := ⟨_, rfl⟩
    have hc : Changes [.peers, .damper, .queue, .airRecord, .grant] s v :=
      hv ▸ (recordPeer_partner_changes hp).mono.then (writePartnerMax_changes _ m)
    have htake : Changes ([.pairState, .offers, .pairTimers, .mirror] ++ Part.handling) v v.takeAccept :=
      State.takeAccept_changes (.refl _ _) rfl
    rw [← hv]
    exact ⟨partnerMaxWritten_of_frame (by rw [htake.peers, hv, hp]), takeAccept_acts hc.pair hc.now hc.cfg hc.evidence_headcount⟩
  · have hc := recordPeer_partner_changes hp
    rw [if_pos (fromPartner_of hd hp)]
    refine ⟨fun ho => ?_, fun ho hl => ?_⟩
    · rw [takeRefuse_mismatch (by rwa [hc.pair_state]), hc.cfg, hc.pair_readsOpen]
      exact ⟨latched_widen (latched_latchEvent _ _) (by rw [hc.link_latches]) hc.link_attempt rfl,
        hc.mono.then (State.latchEvent_changes (ps := [.queue, .latches]) (.refl _ _) _ rfl)⟩
    · rw [takeRefuse_stands (by rwa [hc.pair_state]) (by rwa [hc.pair_state])]
      exact hc
  · have hc := recordPeer_partner_changes hp
    rw [if_pos (fromPartner_of hd hp)]
    refine ⟨fun hs => ?_, fun hs => (takeLeave_acts hc hs).1, fun hj => (takeLeave_acts hc (.inl hj)).2 hj⟩
    rw [takeLeave_stands (by rwa [hc.pair_state])]
    exact hc
  · have hnot := fromPartner_of_elsewhere hnot
    refine ⟨⟨_, exec_joinRefuse h, ?_⟩, ⟨_, exec_joinLeave h, ?_⟩⟩
    all_goals
      rw [if_neg (by simp [hnot])]
      exact State.recordPeer_changes_recordingParts s f

end Sys2Proof.Machine.RoomProofs
end
